-- ==== Sys2Proof/Word.lean ====
section
/-! DEFINITION. The word types of the LS640 and the numbered places of its tables. -/

namespace Sys2Proof

/-- One byte on the aisle string or on the shelf bus (R1, R185, R192). -/
abbrev Byte := BitVec 8

/-- A two-byte field, sent most significant byte first (R185); also the check word (R186). -/
abbrev Word16 := BitVec 16

/-- A task tag, 0 to 65535; the tags of a run count on modulo 65536 (R54, R110). -/
abbrev Tag := BitVec 16

/-- Controller time: a count of 10 ms units that returns to 0 after 4,294,967,295 (R48). -/
abbrev Time := BitVec 32

/-- A channel, one of the 64 module places of the segment (00_scope.md, section 5). -/
abbrev Channel := Fin 64

/-- An index of the range table (R20). -/
abbrev EntryNo := Fin 16

/-- A picker lane (R61). -/
abbrev LaneNo := Fin 8

/-- A table with a fixed number of places. -/
abbrev Tab (n : Nat) (α : Type) := Vector α n

end Sys2Proof
end

