-- ==== Sys2Proof/Syntax.lean ====
section
/-! DEFINITION. The commands of the LS640, one constructor per row of spec/opcode_table.json, and the
operands an event brings with it. -/

namespace Sys2Proof

/-- A frame as it was received, less its delimiter, kind and length bytes (R185): the command's row or
operand gives the kind, and the length byte is the number of payload bytes. -/
structure RxFrame where
  flags   : Byte
  segment : Byte
  payload : List Byte
  check   : Word16
deriving DecidableEq, Repr

/-- A whole frame of either lane (R185). -/
structure Frame where
  kind    : Byte
  flags   : Byte
  segment : Byte
  payload : List Byte
  check   : Word16
deriving DecidableEq, Repr

/-- The two directions of the aisle string (00_scope.md, section 5). -/
inductive StringLane where
  | down
  | up
deriving DecidableEq, Repr

/-- Why a frame under reception is discarded early (R3). -/
inductive EarlyCause where
  /-- its length byte is above 88 -/
  | lengthOver
  /-- one of its bytes lacks its stop bit; whether the line returns to marking within 5 ms -/
  | stopMissing (marksInTime : Bool)
  /-- the line stays marking for 20 µs before the frame is complete -/
  | markingGap
deriving DecidableEq, Repr

/-- The commands. A frame row carries the completed frame, and its meaning makes the checks of R4; an
answered row carries the bytes of the answer, and its meaning makes the checks of R137 (log 1, 13).
A level operand is the level of an input pin at the event (log 3). -/
inductive Instr where
  | powerOnReset (partnerHigh guardAsserted : Bool)
  | lineBreak (partnerHigh guardAsserted : Bool)
  | breakRelayEnd
  | terminalStatusChange (partnerHigh : Bool)
  | frameEarlyDiscard (lane : StringLane) (cause : EarlyCause)
  | discardedFrame (lane : StringLane) (kind : Byte) (rx : RxFrame)
  | unknownKindFrame (kind : Byte) (rx : RxFrame)
  | upiSpacing
  | post (rx : RxFrame)
  | run (rx : RxFrame)
  | amend (rx : RxFrame)
  | withdraw (rx : RxFrame)
  | release (rx : RxFrame)
  | enumerate (rx : RxFrame)
  | setup (rx : RxFrame)
  | lanes (rx : RxFrame)
  | ranges (rx : RxFrame)
  | lock (rx : RxFrame)
  | purge (rx : RxFrame)
  | sweep (rx : RxFrame)
  | hold (rx : RxFrame)
  | resume (rx : RxFrame)
  | revive (rx : RxFrame)
  | test (rx : RxFrame)
  | askStatus (rx : RxFrame)
  | askSlot (rx : RxFrame)
  | askTask (rx : RxFrame)
  | upFrameAccepted (kind : Byte) (rx : RxFrame)
  | downRelayStart (dnoRdy : Bool)
  | downRelayComplete
  | upMergeGrant (upoRdy : Bool)
  | reportFrameSent
  | upRelayComplete
  | timeAdvance
  | deadlineExpiry (channel : Channel)
  | doneHoldExpiry (tag : Tag)
  | waitBlinkExpiry (channel : Channel)
  | probationExpiry (channel : Channel)
  | lampTestExpiry
  | guardAssertion
  | guardRelease
  | guardReleaseTimerExpiry
  | visit
  | showStart
  | pollAnswered (answer : List Byte)
  | pollSilent
  | showAcknowledged (answer : List Byte)
  | showSilent
  | describeAnswered (answer : List Byte)
  | describeSilent
  | inventoryAnswered (answer : List Byte)
  | inventorySilent
deriving DecidableEq, Repr

end Sys2Proof
end

