-- ==== Sys2Proof/Decode.lean ====
section
/-! DEFINITION. The command that a word spells by the table's bits. spec/opcode_table.json gives no row
any bits (every row's fields are empty), so no word spells a command (log 12). The layouts of frames and
answers, which the commands carry whole, are read in Machine/Operands.lean and Machine/Wire.lean. -/

namespace Sys2Proof

/-- No row of the table has bits: none for every word. -/
def decodeTableWord (_nbits _w : Nat) : Option Instr := none

end Sys2Proof
end

