-- ==== Sys2Proof/Config.lean ====
section
/-! DEFINITION. The sizes and defaults the manual fixes for the part. The manual leaves no result
open, so no free value stands here (log 19). -/

namespace Sys2Proof.Config

/-- Frames each relay buffer holds (R6, R16). -/
abbrev relayRoom : Nat := 4
/-- Records of the report queue (R172). -/
abbrev queueRoom : Nat := 32
/-- Free places an answer-tier record needs (R174). -/
abbrev answerNeed : Nat := 1
/-- Free places an essential record needs (R174). -/
abbrev essentialNeed : Nat := 2
/-- Free places an advisory record needs (R174). -/
abbrev advisoryNeed : Nat := 9
/-- Records of the task pool (R56). -/
abbrev poolRoom : Nat := 128
/-- Tasks of one slot list (R82). -/
abbrev listRoom : Nat := 8
/-- Largest quantity a task takes (R54, R65, R69, R105). -/
abbrev maxQuantity : Nat := 9999
/-- Largest payload of a frame, in bytes (R3, R185). -/
abbrev maxPayload : Nat := 88
/-- A line-error count holds here (R5). -/
abbrev countTop : Nat := 255
/-- Misses that take a channel out of its state (R144). -/
abbrev missLimit : Nat := 3
/-- SHOW exchanges of one batch (R141). -/
abbrev batchRoom : Nat := 4
/-- Wait blink duration in controller time units (R49, R92). -/
abbrev waitBlinkUnits : Nat := 100
/-- Default settle in milliseconds (R180). -/
abbrev settleMs : Nat := 300
/-- Default done hold in seconds (R180). -/
abbrev doneHoldS : Nat := 60
/-- Default probation in seconds (R180). -/
abbrev probationS : Nat := 60
/-- Default guard release delay in 100 ms steps (R180). -/
abbrev guardSteps : Nat := 20
/-- Locations one run examines at most (R44, R106). -/
abbrev walkRoom : Nat := 64

end Sys2Proof.Config
end

