-- ==== Sys2Proof/Machine/State.lean ====
section
/-! DEFINITION. The state of the LS640 as plain data, block by block, its faults and refusals, and the
state right after a power-on reset. -/

namespace Sys2Proof.Machine

/-! ### Frames and locations -/

/-- The frame kinds the part acts on (R4, R187). -/
inductive Kind where
  | post | run | amend | withdraw | release
  | enumerate | setup | lanes | ranges | lock | purge | sweep | hold | resume | revive | test
  | askStatus | askSlot | askTask
deriving DecidableEq, Repr

/-- A pick place: bay 0 to 4095, level 0 to 31, position 0 to 127 (section 2.1, R188). -/
structure Location where
  bay   : Nat
  level : Nat
  pos   : Nat
deriving DecidableEq, Repr

/-- The source of a frame on UPO (R17). -/
inductive Source where
  | queue
  | relay
deriving DecidableEq, Repr

/-- What drives DNO: nothing, a relayed frame, or the spacing of a relayed break (R6, R8). -/
inductive DnoLine where
  | idle
  | sending (f : Frame)
  | spacing
deriving DecidableEq, Repr

/-- The frame being sent on UPO and where it came from (R17, R18). -/
structure UpoSend where
  source : Source
  frame  : Frame
deriving DecidableEq, Repr

/-! ### Range table -/

/-- Mode of a range entry (R20). -/
inductive RangeMode where
  | off | block | shadow
deriving DecidableEq, Repr

/-- Position order of a range entry (R20, R40). -/
inductive PosOrder where
  | normal | reversed | serpentine | serpentineReversed
deriving DecidableEq, Repr

/-- One range entry (R20). -/
structure RangeEntry where
  mode   : RangeMode
  bayLo  : Nat
  bayHi  : Nat
  levLo  : Nat
  levHi  : Nat
  posLo  : Nat
  posHi  : Nat
  base   : Nat
  order  : PosOrder
  permPost : Bool
  permRun  : Bool
  permTest : Bool
  locked   : Bool
deriving DecidableEq, Repr

/-! ### Task table -/

/-- Lamp colours (R61, R88). -/
inductive Colour where
  | red | green | blue | yellow | cyan | magenta | white
deriving DecidableEq, Repr

/-- Lamp cadences; a lane holds STEADY or SLOW only (R61, R88). -/
inductive Cadence where
  | steady | slow | fast
deriving DecidableEq, Repr

/-- One entry of the lane table (R61). -/
structure LaneEntry where
  enabled : Bool
  colour  : Colour
  cadence : Cadence
deriving DecidableEq, Repr

/-- Task states (R59). -/
inductive TaskState where
  | queued | showing | done
deriving DecidableEq, Repr

/-- Base tag and step of the run that posted a task (R54). -/
structure RunOrigin where
  base : Tag
  step : Nat
deriving DecidableEq, Repr

/-- One record of the task pool (R54). -/
structure Task where
  tag      : Tag
  loc      : Location
  channel  : Channel
  lane     : LaneNo
  urgency  : Nat
  q        : Nat
  a        : Nat
  adjusted : Bool
  deadline : Nat
  remaining : Option Nat
  expired  : Bool
  state    : TaskState
  picked   : Option Nat
  doneHold : Option Nat
  origin   : Option RunOrigin
deriving DecidableEq, Repr

/-! ### Display engine -/

/-- The digits of a content record (R88). -/
inductive Digits where
  | blank
  | number (n : Nat) (overflow : Bool)
  | dashes
  | bars
  | all
deriving DecidableEq, Repr

/-- A lamp that is ON (R88). -/
structure LampOn where
  colour  : Colour
  cadence : Cadence
deriving DecidableEq, Repr

/-- A content record: lamp none is OFF (R88). -/
structure Content where
  lamp   : Option LampOn
  digits : Digits
deriving DecidableEq, Repr

/-- The display record of a channel (R87). lastSent none is UNKNOWN; settlePassed says that the settle
end counts as passed (R50, log 16). -/
structure DisplayRec where
  settleEnd    : Time
  settlePassed : Bool
  waitBlinkEnd : Option Time
  lastSent     : Option Content
  dirty        : Bool
deriving DecidableEq, Repr

/-! ### Shelf bus -/

/-- Presence states (R143). -/
inductive Presence where
  | absent | present | faulted | reviving | isolated
deriving DecidableEq, Repr

/-- Colour capability of a module (R91, R138). -/
inductive ColourCap where
  | single | full
deriving DecidableEq, Repr

/-- Capabilities record of a channel (R139). -/
structure Caps where
  digits    : Nat
  colourCap : ColourCap
  adjustKey : Bool
  kindCode  : Byte
deriving DecidableEq, Repr

/-- A key level (R117). -/
inductive KeyLevel where
  | up | down
deriving DecidableEq, Repr

/-- A key history: the two latest readings and the settled level; none is "none" or UNKNOWN (R118). -/
structure KeyHistory where
  earlier : Option KeyLevel
  latest  : Option KeyLevel
  settled : Option KeyLevel
deriving DecidableEq, Repr

/-- The unknown value of a key history (R119). -/
def KeyHistory.unknown : KeyHistory := ⟨none, none, none⟩

/-- What the shelf bus keeps for a channel (R118, R139, R143, R144, R149). -/
structure BusRec where
  presence   : Presence
  caps       : Option Caps
  misses     : Nat
  confirmKey : KeyHistory
  adjustKey  : KeyHistory
  probation  : Option Time
deriving DecidableEq, Repr

/-- The exchange in flight (R137, R138); inventory is the DESCRIBE of an inventory visit (R151). -/
inductive Exchange where
  | poll (c : Channel)
  | describe (c : Channel)
  | inventory (c : Channel)
  | display (c : Channel) (content : Content)
deriving DecidableEq, Repr

/-! ### Hold and beacon unit, setup -/

/-- An active lamp test; the set is in channel order (R164, R165). -/
structure LampTest where
  colour  : Colour
  endTime : Time
  set     : List Channel
deriving DecidableEq, Repr

/-- Controller state (R179). -/
inductive CtrlState where
  | starting | running
deriving DecidableEq, Repr

/-! ### Report queue -/

/-- Answer reasons (section 11.4, R191). -/
inductive Reason where
  | ok | notReady | locked | rangeBusy | laneBusy | badEntry | alreadyHeld | notHeld | held
  | notFaulted | isolatedNeedsForce | unknownTag
deriving DecidableEq, Repr

/-- Reasons of a REFUSED record (R65, R69, R71, R73, R105, R191). -/
inductive RefuseReason where
  | badQuantity | notPermitted | laneDisabled | slotAbsent | slotIsolated | tagInUse
  | conditionFalse | listFull | poolFull | unknownTag | alreadyDone | notDone | runCount | runList
deriving DecidableEq, Repr

/-- Stop reasons of a run (R111). -/
inductive StopReason where
  | complete | rangeEnd | occupied | listFull | poolFull | tagInUse
deriving DecidableEq, Repr

/-- The values a SETUP took, in the units in which they are carried (R180). -/
structure SetupValues where
  settleMs   : Nat
  doneHoldS  : Nat
  probationS : Nat
  guardSteps : Nat
  beaconEnable : Bool
deriving DecidableEq, Repr

/-- The body of an ASK STATUS answer (R182). -/
structure StatusBody where
  ctrl     : CtrlState
  segment  : Byte
  queued   : Nat
  showing  : Nat
  done     : Nat
  free     : Nat
  depth    : Nat
  head     : Bool
  guard    : Bool
  testing  : Bool
  beaconEnable : Bool
  beacon   : Bool
  absent   : Nat
  present  : Nat
  faulted  : Nat
  reviving : Nat
  isolated : Nat
  withheld : Bool
  downCheck   : Nat
  downOverrun : Nat
  upCheck     : Nat
  upOverrun   : Nat
deriving DecidableEq, Repr

/-- The body of an ASK SLOT answer (R183). -/
structure SlotBody where
  presence : Presence
  caps     : Option Caps
  settle   : Nat
  content  : Option Content
  tags     : List Tag
deriving DecidableEq, Repr

/-- The body of an ANSWER (R173, R191). -/
inductive AnswerBody where
  | none
  | count (n : Nat)
  | lampTest (seconds channels : Nat)
  | setup (v : SetupValues)
  | status (v : StatusBody)
  | slot (v : SlotBody)
  | task (t : Task)
deriving DecidableEq, Repr

/-- The SHOWING task a STALE_PRESS names, with the settle remaining (R124). -/
structure StaleTask where
  tag    : Tag
  loc    : Location
  lane   : LaneNo
  settle : Nat
deriving DecidableEq, Repr

/-- The kind of a report record with its further fields (R173). -/
inductive ReportBody where
  | answer (kind : Kind) (reason : Reason) (failing : Option Byte) (body : AnswerBody)
  | enumEnd (count : Nat)
  | confirmed (tag : Tag) (loc : Location) (c : Channel) (lane : LaneNo) (q picked : Nat) (short : Bool)
  | refused (kind : Kind) (tag : Tag) (loc : Location) (c : Channel) (reason : RefuseReason)
  | runDone (base : Tag) (posted : Nat) (stop : StopReason) (last : Location)
  | lateWithdraw (tag : Tag) (loc : Location) (c : Channel) (lane : LaneNo) (q picked : Nat)
  | stalePress (c : Channel) (task : Option StaleTask)
  | expired (tag : Tag) (loc : Location) (c : Channel) (lane : LaneNo)
  | moduleFault (c : Channel) (isolated : Bool) (tag : Option Tag)
  | moduleBack (c : Channel) (tag : Option Tag)
  | doubleClaim (tag : Tag) (loc : Location)
  | unclaimed (tag : Tag) (loc : Location) (kind : Kind)
deriving DecidableEq, Repr

/-- A report record with its common fields (R173). -/
structure Report where
  segment : Byte
  stamp   : Word16
  body    : ReportBody
deriving DecidableEq, Repr

/-! ### The whole state -/

/-- The state of one LS640. Every field is listed in INVENTORY.md with the rule that names it. -/
@[ext]
structure State where
  /-- commands that wait, first in, first out (the model's own field) -/
  pending : List Instr
  -- string port
  downBuf : List Frame
  upBuf : List Frame
  dno : DnoLine
  breakWait : Bool
  upo : Option UpoSend
  lastSource : Source
  segNum : Byte
  terminal : Bool
  dnoRdy : Bool
  upoRdy : Bool
  downCheck : Nat
  downOverrun : Nat
  upCheck : Nat
  upOverrun : Nat
  -- range table
  ranges : Tab 16 RangeEntry
  -- task table
  pool : List Task
  slots : Tab 64 (List Tag)
  lanes : Tab 8 LaneEntry
  -- display engine
  disp : Tab 64 DisplayRec
  -- shelf bus
  bus : Tab 64 BusRec
  cursor : Channel
  inventory : Channel
  exchange : Option Exchange
  request : List Byte
  batchLeft : Nat
  -- report queue
  queue : List Report
  withheld : Bool
  -- hold and beacon unit
  head : Bool
  guard : Bool
  guardLine : Bool
  guardTimer : Option Time
  test : Option LampTest
  beaconEnable : Bool
  beacon : Bool
  -- segment setup
  ctrl : CtrlState
  settleMs : Nat
  doneHoldS : Nat
  probationS : Nat
  guardSteps : Nat
  -- controller time
  time : Time
  /-- tags of the records whose countdown ends at the present controller time (the model's own field, log 23) -/
  lapsing : List Tag
deriving DecidableEq, Repr

/-- Why a command stops the model. Each names an event that, by the rules cited, cannot occur in the
state it meets; the manual gives it no effect there. All are safe: the part itself never meets them
(log 7). -/
inductive Fault where
  /-- BREAK_RELAY_END while no break is relayed on DNO (R8). Safe. -/
  | noBreakRelay
  /-- DISCARDED_FRAME with a frame that no line of R4 discards. Safe. -/
  | frameNotDiscarded
  /-- UNKNOWN_KIND_FRAME with a kind code that R187 lists for the down lane. Safe. -/
  | kindIsKnown
  /-- the last byte of a frame is reported sent while no such frame is on the line (R6, R16, R18). Safe. -/
  | nothingSent
  /-- an expiry is reported for a timer that has not reached its end (R51, R52, R53). Safe. -/
  | notDue
  /-- an exchange is started while one is in flight (R137). Safe. -/
  | busOccupied
  /-- an outcome is reported for an exchange of a kind that is not in flight (R137). Safe. -/
  | noSuchExchange
  /-- a SHOW to a PRESENT channel without capabilities; no reachable state has one (R139, R148, R151). Safe. -/
  | capsAbsent
deriving DecidableEq, Repr

/-- Why a command is refused by the model. -/
inductive Refusal where
  /-- raised by Dispatch.lean alone, for a command that has no meaning yet. Safe. -/
  | notModelled (mnemonic : String)
deriving DecidableEq, Repr

/-! ### Power-on values -/

/-- A range entry after either reset (R21). -/
def RangeEntry.reset : RangeEntry :=
  { mode := .off, bayLo := 0, bayHi := 0, levLo := 0, levHi := 0, posLo := 0, posHi := 0, base := 0,
    order := .normal, permPost := false, permRun := false, permTest := false, locked := false }

/-- The lane table after either reset (R61). -/
def lanesReset : Tab 8 LaneEntry :=
  #v[⟨false, .red, .steady⟩, ⟨false, .green, .steady⟩, ⟨false, .blue, .steady⟩,
     ⟨false, .yellow, .steady⟩, ⟨false, .cyan, .steady⟩, ⟨false, .magenta, .steady⟩,
     ⟨false, .white, .steady⟩, ⟨false, .white, .slow⟩]

/-- A display record after a reset at controller time t (R101). -/
def DisplayRec.reset (t : Time) : DisplayRec :=
  { settleEnd := t, settlePassed := true, waitBlinkEnd := none, lastSent := none, dirty := true }

/-- A channel of the shelf bus after a power-on reset (R154). -/
def BusRec.powerOn : BusRec :=
  { presence := .absent, caps := none, misses := 0, confirmKey := .unknown, adjustKey := .unknown,
    probation := none }

/-- The state right after a power-on reset: controller time 0, STARTING, inventory from channel 0,
everything else as R19, R21, R81, R101, R154, R171, R178 and R181 give it. Two reset values come from
pins: the terminal status from PARTNER (R2) and GUARD's place in the hold set (R171). -/
def State.afterPowerOn (partnerHigh guardAsserted : Bool) : State :=
  { pending := [],
    downBuf := [], upBuf := [], dno := .idle, breakWait := false, upo := none, lastSource := .relay,
    segNum := 0, terminal := partnerHigh, dnoRdy := false, upoRdy := false,
    downCheck := 0, downOverrun := 0, upCheck := 0, upOverrun := 0,
    ranges := Vector.replicate 16 RangeEntry.reset,
    pool := [], slots := Vector.replicate 64 [], lanes := lanesReset,
    disp := Vector.replicate 64 (DisplayRec.reset 0),
    bus := Vector.replicate 64 BusRec.powerOn,
    cursor := 0, inventory := 0, exchange := none, request := [], batchLeft := 0,
    queue := [], withheld := false,
    head := false, guard := guardAsserted, guardLine := guardAsserted, guardTimer := none,
    test := none, beaconEnable := false, beacon := false,
    ctrl := .starting, settleMs := Config.settleMs, doneHoldS := Config.doneHoldS,
    probationS := Config.probationS, guardSteps := Config.guardSteps,
    time := 0, lapsing := [] }

/-- The machine right after its first power-up, with nothing connected to PARTNER and GUARD, both pulled
up on chip: terminal, and the guard line released (R2, R160; DESIGN CHOICE, log 4). -/
def State.reset : State := State.afterPowerOn true false

end Sys2Proof.Machine
end

