-- ==== Sys2Proof/Machine/Tables.lean ====
section
/-! DEFINITION. Reading and changing a table of fixed size, and the list of the 64 channels. The three
table operations are irreducible to the elaborator, so that no unification walks a whole table; their
laws stand in Laws/Tables.lean. -/

namespace Sys2Proof.Machine

/-- The table with the value at place i changed by f. -/
@[irreducible] def updTab {n : Nat} {α : Type} (t : Tab n α) (i : Fin n) (f : α → α) : Tab n α :=
  t.set i (f t[i])

/-- Every place of the table changed by f. -/
@[irreducible] def mapTab {n : Nat} {α β : Type} (t : Tab n α) (f : Fin n → α → β) : Tab n β :=
  Vector.ofFn fun i => f i t[i]

/-- The channels 0 to 63 in ascending order. -/
@[irreducible] def channels : List Channel := List.finRange 64

/-- Counts hold at 255 (R5). -/
def bump (n : Nat) : Nat := min (n + 1) Config.countTop

end Sys2Proof.Machine
end

