-- ==== Sys2Proof/Machine/Flags.lean ====
section
/-! DEFINITION. What the part derives from its state: ready lines, the held condition, counts, room in
the report queue, the beacon condition, and the comparisons of controller time. -/

namespace Sys2Proof.Machine

/-! ### Controller time (R48, R49) -/

/-- t is before the end time e: e is 1 to 2,147,483,648 units ahead of t (R48). -/
def before (t e : Time) : Bool := 1 ≤ (e - t).toNat && (e - t).toNat ≤ 2147483648

/-- The controller time n units ahead of t (R48, R53). -/
def ahead (t : Time) (n : Nat) : Time := t + BitVec.ofNat 32 n

/-- The time stamp of a report: controller time modulo 65536 (R48). -/
def State.stamp (s : State) : Word16 := s.time.setWidth 16

/-- Settle S in units (R49). -/
def State.settleUnits (s : State) : Nat := s.settleMs / 10
/-- Done hold H in units (R49). -/
def State.doneHoldUnits (s : State) : Nat := s.doneHoldS * 100
/-- Probation in units (R49). -/
def State.probationUnits (s : State) : Nat := s.probationS * 100
/-- Guard release delay in units (R49). -/
def State.guardUnits (s : State) : Nat := s.guardSteps * 10

/-! ### Lines and modes -/

/-- DNI_RDY is asserted while the down relay buffer holds 0 to 3 frames (R6). -/
def State.dniRdy (s : State) : Bool := s.downBuf.length < Config.relayRoom

/-- UPI_RDY is asserted while the up relay buffer holds 0 to 3 frames (R16). -/
def State.upiRdy (s : State) : Bool := s.upBuf.length < Config.relayRoom

/-- The aisle is held while the hold set is not empty (R157). -/
def State.held (s : State) : Bool := s.head || s.guard

/-- The channel is in the set of the active lamp test (R165). -/
def State.inTest (s : State) (c : Channel) : Bool := s.test.any fun x => x.set.contains c

/-- Presses count and deadlines run only with the hold set empty and no lamp test active (R51, R121). -/
def State.frozen (s : State) : Bool := s.held || s.test.isSome

/-- The presence state of a channel. -/
def State.presenceOf (s : State) (c : Channel) : Presence := s.bus[c].presence

/-- The channel is PRESENT. -/
def State.isPresent (s : State) (c : Channel) : Bool := s.bus[c].presence == .present

/-! ### Settle window and wait blink -/

/-- The settle window is open at t: t is before the settle end and the end has not passed (R50, R87). -/
def DisplayRec.settleOpen (d : DisplayRec) (t : Time) : Bool := !d.settlePassed && before t d.settleEnd

/-- The settle remaining at t, 0 when the end has passed (R50). -/
def DisplayRec.settleRemaining (d : DisplayRec) (t : Time) : Nat :=
  if d.settleOpen t then (d.settleEnd - t).toNat else 0

/-- The wait blink is running at t: its end is not none and t is before it (R87). -/
def DisplayRec.blinkRuns (d : DisplayRec) (t : Time) : Bool :=
  match d.waitBlinkEnd with
  | none => false
  | some e => before t e

/-! ### Counts -/

/-- Records of the pool in a state (R56). -/
def State.poolCount (s : State) (st : TaskState) : Nat := s.pool.countP (·.state == st)

/-- Free places of the pool (R56). -/
def State.poolFree (s : State) : Nat := Config.poolRoom - s.pool.length

/-- Channels in a presence state (R182). -/
def State.presenceCount (s : State) (p : Presence) : Nat := channels.countP (s.bus[·].presence == p)

/-! ### Report queue room (R172, R174) -/

/-- Free places of the report queue (R172). -/
def State.freePlaces (s : State) : Nat := Config.queueRoom - s.queue.length

/-- Free places a record of the kind needs, by its tier (R173, R174). -/
def placesNeeded : ReportBody → Nat
  | .answer .. | .enumEnd .. => Config.answerNeed
  | .confirmed .. | .refused .. | .runDone .. | .lateWithdraw .. => Config.essentialNeed
  | .stalePress .. | .expired .. | .moduleFault .. | .moduleBack .. | .doubleClaim .. | .unclaimed .. =>
    Config.advisoryNeed

/-- An answer-tier record can be taken in (R13, R174). -/
def State.answerRoom (s : State) : Bool := Config.answerNeed ≤ s.freePlaces

/-- An essential record can be taken in (R12, R72, R121, R174). -/
def State.essentialRoom (s : State) : Bool := Config.essentialNeed ≤ s.freePlaces

/-! ### Beacon (R168) -/

/-- A task that is SHOWING with expired yes. -/
def Task.lateShowing (t : Task) : Bool := t.state == .showing && t.expired

/-- A presence state that counts for the beacon: FAULTED or ISOLATED. -/
def Presence.failed (p : Presence) : Bool := p == .faulted || p == .isolated

/-- The beacon condition: some expired SHOWING task, or some channel FAULTED or ISOLATED (R168). -/
def State.beaconCondition (s : State) : Bool :=
  s.pool.any Task.lateShowing || channels.any (s.bus[·].presence.failed)

end Sys2Proof.Machine
end

