-- ==== Sys2Proof/Machine/Wire.lean ====
section
/-! DEFINITION. Frames, check words, codes and layouts on the wire: the chapter Frame Layouts. -/

namespace Sys2Proof.Machine

/-! ### Bytes and words -/

/-- A field that a frame's length guarantees; the checks of R4 come before any field is read. -/
def byteAt (p : List Byte) (i : Nat) : Byte := p.getD i 0

/-- A two-byte field, most significant byte first (R185). -/
def wordAt (p : List Byte) (i : Nat) : Word16 := byteAt p i ++ byteAt p (i + 1)

/-- The bytes of a two-byte field, most significant first (R185). -/
def wordBytes (w : Word16) : List Byte := [w.extractLsb' 8 8, w.extractLsb' 0 8]

/-- A number in a one-byte field. -/
def byteOf (n : Nat) : Byte := BitVec.ofNat 8 n

/-- A number in a two-byte field (R191). -/
def numBytes (n : Nat) : List Byte := wordBytes (BitVec.ofNat 16 n)

/-- Booleans and marks are 0 for no and 1 for yes (R191). -/
def flagByte (b : Bool) : Byte := if b then 1 else 0

/-- The three bytes of a location field as one number (R188). -/
def locationWord (loc : Location) : BitVec 24 :=
  BitVec.ofNat 12 loc.bay ++ BitVec.ofNat 5 loc.level ++ BitVec.ofNat 7 loc.pos

/-- A location field: bits 23 to 12 the bay, 11 to 7 the level, 6 to 0 the position (R188). -/
def locationBytes (loc : Location) : List Byte :=
  [(locationWord loc).extractLsb' 16 8, (locationWord loc).extractLsb' 8 8,
   (locationWord loc).extractLsb' 0 8]

/-- The location that a location field names; every code names one (R188). -/
def locationAt (p : List Byte) (i : Nat) : Location :=
  let v : BitVec 24 := byteAt p i ++ byteAt p (i + 1) ++ byteAt p (i + 2)
  { bay := (v.extractLsb' 12 12).toNat
    level := (v.extractLsb' 7 5).toNat
    pos := (v.extractLsb' 0 7).toNat }

/-! ### Check word and check byte -/

/-- One message bit into the 16-bit register (R186). -/
def crc16Bit (r : Word16) (b : Bool) : Word16 :=
  if Bool.xor r.msb b then (r <<< 1) ^^^ 0x1021#16 else r <<< 1

/-- One byte into the 16-bit register, most significant bit first (R186). -/
def crc16Byte (r : Word16) (x : Byte) : Word16 :=
  [7, 6, 5, 4, 3, 2, 1, 0].foldl (fun r i => crc16Bit r (x.getLsbD i)) r

/-- The check word over the given bytes (R186). -/
def crc16 (bs : List Byte) : Word16 := bs.foldl crc16Byte 0xFFFF#16

/-- One message bit into the 8-bit register (R192). -/
def crc8Bit (r : Byte) (b : Bool) : Byte :=
  if Bool.xor r.msb b then (r <<< 1) ^^^ 0x07#8 else r <<< 1

/-- One byte into the 8-bit register (R192). -/
def crc8Byte (r : Byte) (x : Byte) : Byte :=
  [7, 6, 5, 4, 3, 2, 1, 0].foldl (fun r i => crc8Bit r (x.getLsbD i)) r

/-- The check byte over the given bytes (R137, R192). -/
def crc8 (bs : List Byte) : Byte := bs.foldl crc8Byte 0

/-! ### The envelope -/

/-- The length byte of a payload (R185). -/
def lengthByte (p : List Byte) : Byte := byteOf p.length

/-- The bytes a frame's check word is formed over: kind to the last payload byte (R186). -/
def coveredBytes (f : Frame) : List Byte :=
  f.kind :: lengthByte f.payload :: f.flags :: f.segment :: f.payload

/-- The whole frame as it goes onto the line (R185). -/
def frameBytes (f : Frame) : List Byte := 0xA5#8 :: coveredBytes f ++ wordBytes f.check

/-- The check word agrees (R4, R186). -/
def checkAgrees (f : Frame) : Bool := f.check == crc16 (coveredBytes f)

/-- The frame with its check word computed afresh (R7, R186). -/
def rechecked (f : Frame) : Frame := { f with check := crc16 (coveredBytes f) }

/-- The received frame, with the kind its row or operand gives. -/
def frameOf (kind : Byte) (rx : RxFrame) : Frame :=
  { kind := kind, flags := rx.flags, segment := rx.segment, payload := rx.payload, check := rx.check }

/-- The claim mark, bit 0 of the flags byte (R185). -/
def claimMark (f : Frame) : Bool := f.flags.getLsbD 0

/-- The relay copy of a claimed task frame: mark set, check word recomputed (R7). -/
def markClaimed (f : Frame) : Frame := rechecked { f with flags := f.flags ||| 1 }

/-- The relay copy of an ENUMERATE: next number replaced, check word recomputed (R7, R14). -/
def renumbered (f : Frame) (n : Byte) : Frame := rechecked { f with payload := [n] }

/-! ### Kinds and sizes -/

/-- Kind codes (R187). -/
def kindCode : Kind → Byte
  | .post => 0x10 | .run => 0x11 | .amend => 0x12 | .withdraw => 0x13 | .release => 0x14
  | .enumerate => 0x30 | .setup => 0x31 | .lanes => 0x32 | .ranges => 0x33 | .lock => 0x34
  | .purge => 0x35 | .sweep => 0x36 | .hold => 0x37 | .resume => 0x38 | .revive => 0x39
  | .test => 0x3A | .askStatus => 0x3B | .askSlot => 0x3C | .askTask => 0x3D

/-- Every kind the part acts on. -/
def allKinds : List Kind :=
  [.post, .run, .amend, .withdraw, .release, .enumerate, .setup, .lanes, .ranges, .lock, .purge,
   .sweep, .hold, .resume, .revive, .test, .askStatus, .askSlot, .askTask]

/-- The kind a code names on the down lane; the report kind is unknown there (R4, R187). -/
def kindOf (code : Byte) : Option Kind := allKinds.find? fun k => kindCode k == code

/-- The report kind's code (R187). -/
def reportCode : Byte := 0x60

/-- The payload size is one of the sizes of the kind (R187). -/
def sizeAgrees (k : Kind) (n : Nat) : Bool :=
  match k with
  | .post => n == 9
  | .run => 10 ≤ n && n ≤ 88 && n % 2 == 0
  | .amend => n == 7
  | .withdraw => n == 5
  | .release => n == 5
  | .enumerate => n == 1
  | .setup => n == 6
  | .lanes => 2 ≤ n && n ≤ 9
  | .ranges => 11 ≤ n && n ≤ 81 && n % 10 == 1
  | .lock => n ≤ 16
  | .purge => n == 1
  | .sweep => n == 1
  | .hold => n == 0
  | .resume => n == 0
  | .revive => n == 2
  | .test => n == 2
  | .askStatus => n == 0
  | .askSlot => n == 1
  | .askTask => n == 2

/-- The size of an ANSWER payload agrees: 6, or 6 plus a body size of the frame kind named in payload
byte 3 (R191). -/
def answerSizeAgrees (kind : Byte) (n : Nat) : Bool :=
  n == 6 ||
  match kindOf kind with
  | some .purge => n == 7
  | some .sweep => n == 7
  | some .test => n == 8
  | some .setup => n == 12
  | some .askStatus => n == 27
  | some .askSlot => 16 ≤ n && n ≤ 32 && n % 2 == 0
  | some .askTask => n == 31
  | _ => false

/-- The size of a report payload is one of the sizes of the report kind its byte 0 names; a payload
too short to hold that byte, or whose byte names none, disagrees (R4, R186, R191). -/
def reportSizeAgrees (p : List Byte) : Bool :=
  match p with
  | [] => false
  | k :: _ =>
    if k = 0x01 then answerSizeAgrees (byteAt p 3) p.length
    else if k = 0x02 then p.length == 4
    else if k = 0x10 then p.length == 15
    else if k = 0x11 then p.length == 11
    else if k = 0x12 then p.length == 10
    else if k = 0x13 then p.length == 14
    else if k = 0x20 then p.length == 4 || p.length == 11
    else if k = 0x21 then p.length == 10
    else if k = 0x22 then p.length == 5 || p.length == 7
    else if k = 0x23 then p.length == 4 || p.length == 6
    else if k = 0x24 then p.length == 8
    else if k = 0x25 then p.length == 9
    else false

/-- How R4 deals with a completed frame, before the room of the relay buffer is looked at. -/
inductive FrameCheck where
  | badCheck
  | malformed
  | good
deriving DecidableEq, Repr

/-- The first two lines of R4's table on the down lane; a payload above 88 bytes never completes (R3). -/
def checkDown (f : Frame) : FrameCheck :=
  if Config.maxPayload < f.payload.length || !checkAgrees f then .badCheck
  else
    match kindOf f.kind with
    | some k => if sizeAgrees k f.payload.length then .good else .malformed
    | none => .good

/-- The first two lines of R4's table on the up lane. -/
def checkUp (f : Frame) : FrameCheck :=
  if Config.maxPayload < f.payload.length || !checkAgrees f then .badCheck
  else if f.kind = reportCode then
    if reportSizeAgrees f.payload then .good else .malformed
  else .good

/-! ### Codes of values -/

/-- Colour codes (R190). -/
def colourCode : Colour → Byte
  | .red => 0 | .green => 1 | .blue => 2 | .yellow => 3 | .cyan => 4 | .magenta => 5 | .white => 6

/-- The colour a code names; any other value names none (R190). -/
def colourOf (code : Nat) : Option Colour :=
  match code with
  | 0 => some .red | 1 => some .green | 2 => some .blue | 3 => some .yellow
  | 4 => some .cyan | 5 => some .magenta | 6 => some .white | _ => none

/-- Cadence codes of the content record (R191). -/
def cadenceCode : Cadence → Byte
  | .steady => 0 | .slow => 1 | .fast => 2

/-- Answer reasons (R191). -/
def reasonCode : Reason → Byte
  | .ok => 0x00 | .notReady => 0x01 | .locked => 0x02 | .rangeBusy => 0x03 | .laneBusy => 0x04
  | .badEntry => 0x05 | .alreadyHeld => 0x06 | .notHeld => 0x07 | .held => 0x08
  | .notFaulted => 0x09 | .isolatedNeedsForce => 0x0A | .unknownTag => 0x0B

/-- REFUSED reasons (R191). -/
def refuseCode : RefuseReason → Byte
  | .badQuantity => 0x20 | .notPermitted => 0x21 | .laneDisabled => 0x22 | .slotAbsent => 0x23
  | .slotIsolated => 0x24 | .tagInUse => 0x25 | .conditionFalse => 0x26 | .listFull => 0x27
  | .poolFull => 0x28 | .unknownTag => 0x29 | .alreadyDone => 0x2A | .notDone => 0x2B
  | .runCount => 0x2C | .runList => 0x2D

/-- Stop reasons (R191). -/
def stopCode : StopReason → Byte
  | .complete => 0x00 | .rangeEnd => 0x01 | .occupied => 0x02 | .listFull => 0x03
  | .poolFull => 0x04 | .tagInUse => 0x05

/-- Presence states in an ASK SLOT body (R191). -/
def presenceCode : Presence → Byte
  | .absent => 0 | .present => 1 | .faulted => 2 | .reviving => 3 | .isolated => 4

/-- Task states in an ASK TASK body (R191). -/
def taskStateCode : TaskState → Byte
  | .queued => 0 | .showing => 1 | .done => 2

/-- Channel in one byte. -/
def channelByte (c : Channel) : Byte := byteOf c.val

/-! ### The content record on the wire -/

/-- Byte 0 of a content record: lamp in bit 7, colour in bits 6 to 4, cadence in bits 1 and 0 (R191). -/
def lampByte : Option LampOn → Byte
  | none => 0
  | some l => 0x80 ||| (colourCode l.colour <<< 4) ||| cadenceCode l.cadence

/-- Bytes 1 to 3 of a content record: overflow mark in bit 7 and digits in bits 2 to 0, then the number
(R191). -/
def digitsBytes : Digits → List Byte
  | .blank => [0, 0, 0]
  | .number n ov => (if ov then (0x81 : Byte) else 0x01) :: numBytes n
  | .dashes => [2, 0, 0]
  | .bars => [3, 0, 0]
  | .all => [4, 0, 0]

/-- A content record in 4 bytes (R191). -/
def contentBytes (c : Content) : List Byte := lampByte c.lamp :: digitsBytes c.digits

/-- The content shown in an ASK SLOT body; UNKNOWN is FFh in all four bytes (R191). -/
def shownBytes : Option Content → List Byte
  | none => [0xFF, 0xFF, 0xFF, 0xFF]
  | some c => contentBytes c

/-! ### The report record -/

/-- A tag in two bytes. -/
def tagBytes (t : Tag) : List Byte := wordBytes t

/-- An optional two-byte number, FFFFh when absent (R191). -/
def numOrFill : Option Nat → List Byte
  | none => [0xFF, 0xFF]
  | some n => numBytes n

/-- A tag sent only when present (R191, by size). -/
def tagIfPresent : Option Tag → List Byte
  | none => []
  | some t => tagBytes t

/-- The five values of a SETUP, laid out as in its payload (R190, R191). -/
def setupBytes (v : SetupValues) : List Byte :=
  numBytes v.settleMs ++
    [byteOf v.doneHoldS, byteOf v.probationS, byteOf v.guardSteps, flagByte v.beaconEnable]

/-- The ASK STATUS body (R191). -/
def statusBytes (v : StatusBody) : List Byte :=
  [if v.ctrl = .running then (1 : Byte) else 0, v.segment,
   byteOf v.queued, byteOf v.showing, byteOf v.done, byteOf v.free, byteOf v.depth,
   (if v.head then (1 : Byte) else 0) ||| (if v.guard then (2 : Byte) else 0),
   flagByte v.testing, flagByte v.beaconEnable, flagByte v.beacon,
   byteOf v.absent, byteOf v.present, byteOf v.faulted, byteOf v.reviving, byteOf v.isolated,
   flagByte v.withheld,
   byteOf v.downCheck, byteOf v.downOverrun, byteOf v.upCheck, byteOf v.upOverrun]

/-- The four capability bytes; all 0 when the record is absent (R191). -/
def capsBytes : Option Caps → List Byte
  | none => [0, 0, 0, 0]
  | some k =>
    [byteOf k.digits, (if k.colourCap = .full then (1 : Byte) else 0), flagByte k.adjustKey, k.kindCode]

/-- The ASK SLOT body (R191). -/
def slotBytes (v : SlotBody) : List Byte :=
  presenceCode v.presence :: capsBytes v.caps ++ byteOf v.settle :: shownBytes v.content
    ++ v.tags.flatMap tagBytes

/-- The run origin: base tag and step, FFFFh and FFh when absent (R191). -/
def originBytes : Option RunOrigin → List Byte
  | none => [0xFF, 0xFF, 0xFF]
  | some o => tagBytes o.base ++ [byteOf o.step]

/-- The ASK TASK body (R191). -/
def taskBytes (t : Task) : List Byte :=
  tagBytes t.tag ++ locationBytes t.loc
    ++ [channelByte t.channel, byteOf t.lane.val, byteOf t.urgency]
    ++ numBytes t.q ++ numBytes t.a ++ [flagByte t.adjusted]
    ++ byteOf t.deadline :: numOrFill t.remaining
    ++ [flagByte t.expired, taskStateCode t.state]
    ++ numOrFill t.picked ++ numOrFill t.doneHold ++ originBytes t.origin

/-- The body of an ANSWER (R191). -/
def answerBytes : AnswerBody → List Byte
  | .none => []
  | .count n => [byteOf n]
  | .lampTest s n => [byteOf s, byteOf n]
  | .setup v => setupBytes v
  | .status v => statusBytes v
  | .slot v => slotBytes v
  | .task t => taskBytes t

/-- Report kind codes (R191). -/
def bodyCode : ReportBody → Byte
  | .answer .. => 0x01 | .enumEnd .. => 0x02 | .confirmed .. => 0x10 | .refused .. => 0x11
  | .runDone .. => 0x12 | .lateWithdraw .. => 0x13 | .stalePress .. => 0x20 | .expired .. => 0x21
  | .moduleFault .. => 0x22 | .moduleBack .. => 0x23 | .doubleClaim .. => 0x24 | .unclaimed .. => 0x25

/-- The fields of a record after its time stamp, in the order R173 lists them (R191). -/
def bodyBytes : ReportBody → List Byte
  | .answer k r i b => [kindCode k, reasonCode r, i.getD 0xFF] ++ answerBytes b
  | .enumEnd n => [byteOf n]
  | .confirmed t l c ln q p sh =>
    tagBytes t ++ locationBytes l ++ [channelByte c, byteOf ln.val] ++ numBytes q ++ numBytes p ++ [flagByte sh]
  | .refused k t l c r => kindCode k :: tagBytes t ++ locationBytes l ++ [channelByte c, refuseCode r]
  | .runDone b n st l => tagBytes b ++ [byteOf n, stopCode st] ++ locationBytes l
  | .lateWithdraw t l c ln q p =>
    tagBytes t ++ locationBytes l ++ [channelByte c, byteOf ln.val] ++ numBytes q ++ numBytes p
  | .stalePress c none => [channelByte c]
  | .stalePress c (some x) =>
    channelByte c :: tagBytes x.tag ++ locationBytes x.loc ++ [byteOf x.lane.val, byteOf x.settle]
  | .expired t l c ln => tagBytes t ++ locationBytes l ++ [channelByte c, byteOf ln.val]
  | .moduleFault c iso t => [channelByte c, flagByte iso] ++ tagIfPresent t
  | .moduleBack c t => channelByte c :: tagIfPresent t
  | .doubleClaim t l => tagBytes t ++ locationBytes l
  | .unclaimed t l k => tagBytes t ++ locationBytes l ++ [kindCode k]

/-- A report record as a payload: kind code, time stamp, fields (R191). -/
def reportPayload (r : Report) : List Byte := bodyCode r.body :: wordBytes r.stamp ++ bodyBytes r.body

/-- The frame a report record is sent as: report kind, flags 0, the record's own segment number (R18). -/
def reportFrame (r : Report) : Frame :=
  rechecked { kind := reportCode, flags := 0, segment := r.segment, payload := reportPayload r, check := 0 }

/-! ### Shelf bus transfers -/

/-- The channel of an exchange. -/
def exchangeChannel : Exchange → Channel
  | .poll c => c | .describe c => c | .inventory c => c | .display c _ => c

/-- Exchange kind codes, bits 7 and 6 of the address byte (R192). -/
def exchangeCode : Exchange → Byte
  | .poll _ => 0 | .display _ _ => 1 | .describe _ => 2 | .inventory _ => 2

/-- The address byte of a request and of its answer (R192). -/
def addressByte (x : Exchange) : Byte := (exchangeCode x <<< 6) ||| channelByte (exchangeChannel x)

/-- Bytes closed by their check byte (R192). -/
def withCheckByte (bs : List Byte) : List Byte := bs ++ [crc8 bs]

/-- The request of an exchange as it goes onto the bus (R192). -/
def requestBytes : Exchange → List Byte
  | .display c k => withCheckByte (addressByte (.display c k) :: contentBytes k)
  | .poll c => withCheckByte [addressByte (.poll c)]
  | .describe c => withCheckByte [addressByte (.describe c)]
  | .inventory c => withCheckByte [addressByte (.inventory c)]

/-- The bytes between address and check of an answer that has the address byte and the number of bytes
of its request's kind and whose check byte agrees; none where the answer is silent by R137 (R192). -/
def answerInner (x : Exchange) (n : Nat) (ans : List Byte) : Option (List Byte) :=
  if ans.length = n + 2 ∧ byteAt ans 0 = addressByte x ∧ byteAt ans (n + 1) = crc8 (ans.take (n + 1)) then
    some ((ans.drop 1).take n)
  else none

/-- The key levels of a good POLL answer: bit 0 confirm, bit 1 adjust, bits 7 to 2 disregarded (R192). -/
def pollKeys (c : Channel) (ans : List Byte) : Option (KeyLevel × KeyLevel) :=
  (answerInner (.poll c) 1 ans).map fun b =>
    ((if (byteAt b 0).getLsbD 0 then .down else .up), (if (byteAt b 0).getLsbD 1 then .down else .up))

/-- A good SHOW answer is a bare acknowledgement (R138, R192). -/
def showAnswerGood (c : Channel) (k : Content) (ans : List Byte) : Bool :=
  (answerInner (.display c k) 0 ans).isSome

/-- The capabilities of a good DESCRIBE answer; none where a field is out of range (R138, R192). -/
def describedCaps (x : Exchange) (ans : List Byte) : Option Caps :=
  (answerInner x 4 ans).bind fun b =>
    let d := (byteAt b 0).toNat
    if (d = 2 ∨ d = 3 ∨ d = 4) ∧ (byteAt b 1).toNat ≤ 1 ∧ (byteAt b 2).toNat ≤ 1 then
      some { digits := d, colourCap := (if byteAt b 1 = 1 then .full else .single),
             adjustKey := (byteAt b 2 = 1), kindCode := byteAt b 3 }
    else none

end Sys2Proof.Machine
end

