-- ==== Sys2Proof/Machine/Operands.lean ====
section
/-! DEFINITION. What each frame's payload says, read by the layouts of R188 to R190. A payload reaches
these readers only after R4's length check, so every field they name is there. -/

namespace Sys2Proof.Machine

/-! ### Operand types -/

/-- Condition of a POST (R66). -/
inductive Condition where
  | always | ifIdle | ifLaneFree | ifPresent
deriving DecidableEq, Repr

/-- Direction of a RUN (R42, R43). -/
inductive Direction where
  | ascending | descending
deriving DecidableEq, Repr

/-- Termination mode of a RUN (R108). -/
inductive Termination where
  | none | stopIfOccupied | skipIfOccupied
deriving DecidableEq, Repr

/-- A POST (section 4.5). -/
structure PostOp where
  tag : Tag
  loc : Location
  lane : LaneNo
  urgency : Nat
  condition : Condition
  q : Nat
  deadline : Nat
deriving DecidableEq, Repr

/-- A RUN (R103). -/
structure RunOp where
  base : Tag
  start : Location
  direction : Direction
  count : Nat
  termination : Termination
  lane : LaneNo
  urgency : Nat
  deadline : Nat
  quantities : List Nat
deriving DecidableEq, Repr

/-- Tag, location and, for AMEND, the new quantity (R69, R71, R73). -/
structure TagOp where
  tag : Tag
  loc : Location
  q : Nat
deriving DecidableEq, Repr

/-- The fields of a range entry as a RANGES frame carries them; none where a code names no value (R30). -/
structure EntryOp where
  mode : Option RangeMode
  bayLo : Nat
  bayHi : Nat
  levLo : Nat
  levHi : Nat
  posLo : Nat
  posHi : Nat
  base : Nat
  order : Option PosOrder
  permPost : Bool
  permRun : Bool
  permTest : Bool
deriving DecidableEq, Repr

/-- The fields of a lane entry as a LANES frame carries them; none where a code names no value (R62). -/
structure LaneOp where
  enabled : Bool
  colour : Option Colour
  cadence : Option Cadence
deriving DecidableEq, Repr

/-- What a SWEEP names (R78, R190). -/
inductive SweepOp where
  | lane (n : LaneNo)
  | all
  | bad (b : Byte)
deriving DecidableEq, Repr

/-! ### Packed bytes -/

/-- A field of a byte: its n bits from bit lo upward. -/
def bitsOf (b : Byte) (lo n : Nat) : Nat := (b.extractLsb' lo n).toNat

/-- A three-bit lane field; every code names a lane (R189). -/
def laneField (b : Byte) (lo : Nat) : LaneNo := (b.extractLsb' lo 3).toFin

/-- Bits 2 and 1 of the task byte (R189). -/
def conditionOf (code : Nat) : Condition :=
  match code with
  | 0 => .always | 1 => .ifIdle | 2 => .ifLaneFree | _ => .ifPresent

/-- Bits 6 and 5 of the run byte (R189). -/
def terminationOf (b : Byte) : Termination :=
  if b.getLsbD 6 then (if b.getLsbD 5 then .stopIfOccupied else .skipIfOccupied) else .none

/-- Mode codes (R190). -/
def modeOf (code : Nat) : Option RangeMode :=
  match code with
  | 0 => some .off | 1 => some .block | 2 => some .shadow | _ => none

/-- Position order codes (R190). -/
def orderOf (code : Nat) : Option PosOrder :=
  match code with
  | 0 => some .normal | 1 => some .reversed | 2 => some .serpentine | 3 => some .serpentineReversed
  | _ => none

/-- Lane cadence codes (R190). -/
def laneCadenceOf (code : Nat) : Option Cadence :=
  match code with
  | 0 => some .steady | 1 => some .slow | _ => none

/-! ### Task frames (R188, R189) -/

/-- tag, location, task byte, Q, D (R188, R189). -/
def postOp (p : List Byte) : PostOp :=
  let t := byteAt p 5
  { tag := wordAt p 0, loc := locationAt p 2, lane := laneField t 5, urgency := bitsOf t 3 2,
    condition := conditionOf (bitsOf t 1 2), q := (wordAt p 6).toNat, deadline := (byteAt p 8).toNat }

/-- base tag, start location, run byte, count, D, quantities (R188, R189). -/
def runOp (p : List Byte) : RunOp :=
  let r := byteAt p 5
  { base := wordAt p 0, start := locationAt p 2,
    direction := if r.getLsbD 7 then .descending else .ascending,
    termination := terminationOf r, lane := laneField r 2, urgency := bitsOf r 0 2,
    count := (byteAt p 6).toNat, deadline := (byteAt p 7).toNat,
    quantities := (List.range ((p.length - 8) / 2)).map fun k => (wordAt p (8 + 2 * k)).toNat }

/-- tag, location, and Q′ where the frame carries one (R188). -/
def tagOp (p : List Byte) : TagOp :=
  { tag := wordAt p 0, loc := locationAt p 2, q := (wordAt p 5).toNat }

/-! ### Management frames (R190) -/

/-- The ten bytes of a range entry from byte i on (R190). -/
def entryOpAt (p : List Byte) (i : Nat) : EntryOp :=
  let m := byteAt p (i + 9)
  { bayLo := (wordAt p i).toNat, bayHi := (wordAt p (i + 2)).toNat,
    levLo := (byteAt p (i + 4)).toNat, levHi := (byteAt p (i + 5)).toNat,
    posLo := (byteAt p (i + 6)).toNat, posHi := (byteAt p (i + 7)).toNat,
    base := (byteAt p (i + 8)).toNat,
    mode := modeOf (bitsOf m 6 2), order := orderOf (bitsOf m 3 3),
    permPost := m.getLsbD 2, permRun := m.getLsbD 1, permTest := m.getLsbD 0 }

/-- The entries of a RANGES frame, in frame order (R28, R187, R190). -/
def entryOps (p : List Byte) : List EntryOp :=
  (List.range ((p.length - 1) / 10)).map fun k => entryOpAt p (1 + 10 * k)

/-- One entry byte of a LANES frame (R190). -/
def laneOpOf (b : Byte) : LaneOp :=
  { enabled := b.getLsbD 7, colour := colourOf (bitsOf b 4 3), cadence := laneCadenceOf (bitsOf b 0 2) }

/-- The entries of a LANES frame, in frame order (R62, R190). -/
def laneOps (p : List Byte) : List LaneOp := (p.drop 1).map laneOpOf

/-- The values of a SETUP after clamping (R180, R190). -/
def setupOp (p : List Byte) : SetupValues :=
  { settleMs := min (wordAt p 0).toNat 2550 / 10 * 10
    doneHoldS := max (byteAt p 2).toNat 1
    probationS := max (byteAt p 3).toNat 10
    guardSteps := min (byteAt p 4).toNat 100
    beaconEnable := byteAt p 5 != 0 }

/-- The lane byte of a SWEEP: 0 to 7, FFh for all, anything else refused (R190). -/
def sweepOp (p : List Byte) : SweepOp :=
  let b := byteAt p 0
  if h : b.toNat < 8 then .lane ⟨b.toNat, h⟩ else if b = 0xFF then .all else .bad b

/-- The duration a TEST takes, in seconds: below 1 taken as 1, above 60 as 60 (R164). -/
def testSeconds (p : List Byte) : Nat := max 1 (min (byteAt p 1).toNat 60)

end Sys2Proof.Machine
end

