-- ==== Sys2Proof/Machine/Ops.lean ====
section
/-! DEFINITION. The operations the commands share: admitting reports, relaying, settle windows, dirty
marks, head changes, freeing tasks, the beacon, holds, the lamp test, presence changes and the resets. -/

namespace Sys2Proof.Machine

/-! ### Reports (R172 to R176) -/

/-- A record is taken in at the end of the queue, with the segment number and time stamp of the event
(R172, R173). Its caller has asked for room where the rules say so. -/
def record (b : ReportBody) (s : State) : State :=
  { s with queue := s.queue ++ [{ segment := s.segNum, stamp := s.stamp, body := b }] }

/-- An advisory, or a REFUSED of a task frame, is taken in when its tier has room; otherwise it is dropped
and the advisory-withheld mark is set (R174, R175). -/
def offer (b : ReportBody) (s : State) : State :=
  if placesNeeded b ≤ s.freePlaces then record b s else { s with withheld := true }

/-! ### Relay buffers (R6, R16) -/

/-- A relayed down frame enters the buffer, or is dropped while the segment is terminal (R6). -/
def relayDown (f : Frame) (s : State) : State :=
  if s.terminal then s else { s with downBuf := s.downBuf ++ [f] }

/-- A check error of a lane (R5). -/
def countCheck (lane : StringLane) (s : State) : State :=
  match lane with
  | .down => { s with downCheck := bump s.downCheck }
  | .up => { s with upCheck := bump s.upCheck }

/-- An overrun of a lane (R5). -/
def countOverrun (lane : StringLane) (s : State) : State :=
  match lane with
  | .down => { s with downOverrun := bump s.downOverrun }
  | .up => { s with upOverrun := bump s.upOverrun }

/-! ### Finding tasks (R56, R58) -/

/-- The live record of a tag, in the whole pool (R56, R184). -/
def findTag (pool : List Task) (tag : Tag) : Option Task := pool.find? (·.tag == tag)

/-- The live record of a tag on a channel (R58). -/
def findOn (pool : List Task) (c : Channel) (tag : Tag) : Option Task :=
  pool.find? fun t => t.tag == tag && t.channel == c

/-- The record of a tag changed by f. -/
def editTask (tag : Tag) (f : Task → Task) (pool : List Task) : List Task :=
  pool.map fun t => if t.tag = tag then f t else t

/-- The SHOWING task of a channel: the first entry of its slot list (R82). -/
def showingOf (s : State) (c : Channel) : Option Task := s.slots[c].head?.bind (findTag s.pool)

/-! ### Display records (R50, R92, R94) -/

/-- Starting a settle window at t with S in units: the settle end becomes the later of its present value
and t + S; an end that has passed counts for nothing (R50). -/
def startSettle (t : Time) (units : Nat) (d : DisplayRec) : DisplayRec :=
  let e := ahead t units
  if d.settlePassed then { d with settleEnd := e, settlePassed := !before t e }
  else if before d.settleEnd e then { d with settleEnd := e }
  else d

/-- The channel is marked dirty (R94). -/
def markDirty (d : DisplayRec) : DisplayRec := { d with dirty := true }

/-- A head change on a channel at t: dirty, the running wait blink cancelled, and a settle window unless
the list is now empty (R60, R92, R94, R99, R100). -/
def headChange (t : Time) (units : Nat) (nowEmpty : Bool) (d : DisplayRec) : DisplayRec :=
  let d := { markDirty d with waitBlinkEnd := if d.blinkRuns t then none else d.waitBlinkEnd }
  if nowEmpty then d else startSettle t units d

/-- The display record of one channel changed. -/
def onDisp (c : Channel) (f : DisplayRec → DisplayRec) (s : State) : State :=
  { s with disp := updTab s.disp c f }

/-- The display records of the channels that p picks changed. -/
def onDisps (p : Channel → Bool) (f : DisplayRec → DisplayRec) (s : State) : State :=
  { s with disp := mapTab s.disp fun c d => if p c then f d else d }

/-- The bus record of one channel changed. -/
def onBus (c : Channel) (f : BusRec → BusRec) (s : State) : State :=
  { s with bus := updTab s.bus c f }

/-! ### Beacon (R168) -/

/-- The beacon state follows the condition and the enable (R168, R169). -/
def evalBeacon (s : State) : State := { s with beacon := s.beaconEnable && s.beaconCondition }

/-! ### Slot lists and head changes (R59, R60, R82 to R85) -/

/-- The first entry of each list is SHOWING (R60, R82). -/
def promote (slots : Tab 64 (List Tag)) (pool : List Task) : List Task :=
  pool.map fun t =>
    if t.state = .queued ∧ slots[t.channel].head? = some t.tag then { t with state := .showing } else t

/-- The pool and the slot lists after one event, with a head change on every channel whose first entry
became a different task or whose list became empty or stopped being empty: looked at once (R60, R85). -/
def restand (pool : List Task) (slots : Tab 64 (List Tag)) (s : State) : State :=
  evalBeacon { s with
    pool := promote slots pool
    slots := slots
    disp := mapTab s.disp fun c d =>
      if s.slots[c].head? = slots[c].head? then d
      else headChange s.time s.settleUnits slots[c].isEmpty d }

/-- Urgency of a listed tag. -/
def urgencyOf (pool : List Task) (tag : Tag) : Nat := ((findTag pool tag).map (·.urgency)).getD 0

/-- Ahead of the first waiting entry of lower urgency, at the end if there is none (R84). -/
def insertWaiting (pool : List Task) (u : Nat) (tag : Tag) : List Tag → List Tag
  | [] => [tag]
  | x :: xs => if urgencyOf pool x < u then tag :: x :: xs else x :: insertWaiting pool u tag xs

/-- Where a newly posted task stands; the first entry is not displaced (R84). -/
def insertSlot (pool : List Task) (u : Nat) (tag : Tag) : List Tag → List Tag
  | [] => [tag]
  | x :: xs => x :: insertWaiting pool u tag xs

/-- A record is created and joins its channel's list (R67, R84, R110). -/
def postTask (t : Task) (s : State) : State :=
  restand (s.pool ++ [t]) (updTab s.slots t.channel (insertSlot s.pool t.urgency t.tag)) s

/-- A QUEUED or SHOWING task that a SWEEP, PURGE or WITHDRAW picks. -/
def leaves (p : Task → Bool) (t : Task) : Bool := t.state != .done && p t

/-- Every QUEUED and SHOWING task that p picks is freed at one event and leaves its list (R57, R60). -/
def freeListed (p : Task → Bool) (s : State) : State :=
  restand (s.pool.filter fun t => !leaves p t)
    (mapTab s.slots fun _ l => l.filter fun tag => !s.pool.any fun t => t.tag == tag && leaves p t) s

/-- How many tasks that is (R38, R79). -/
def countListed (p : Task → Bool) (s : State) : Nat := s.pool.countP (leaves p)

/-- A DONE record is freed: it stands in no list (R57, R73, R77). -/
def freeDone (tag : Tag) (s : State) : State := { s with pool := s.pool.filter (·.tag != tag) }

/-! ### Lamp test and hold (R157 to R167) -/

/-- The lamp test ends by a hold beginning: its channels dirty, no settle window (R167). -/
def endTestByHold (s : State) : State :=
  { s with disp := mapTab s.disp fun c d => if s.inTest c then markDirty d else d, test := none }

/-- The lamp test ends by expiry: its channels dirty and given a settle window (R167). -/
def endTestByExpiry (s : State) : State :=
  { s with
    disp := mapTab s.disp fun c d =>
      if s.inTest c then startSettle s.time s.settleUnits (markDirty d) else d
    test := none }

/-- A hold beginning: every PRESENT channel dirty, and an active lamp test ends (R162). -/
def holdBegins (s : State) : State := endTestByHold (onDisps s.isPresent markDirty s)

/-- A hold ending: every PRESENT channel dirty and given a settle window (R163). -/
def holdEnds (s : State) : State :=
  onDisps s.isPresent (fun d => startSettle s.time s.settleUnits (markDirty d)) s

/-- The hold set becomes the one given; only changes between empty and not empty matter (R157). -/
def setHold (head guard : Bool) (s : State) : State :=
  if s.held = (head || guard) then { s with head := head, guard := guard }
  else if s.held then holdEnds { s with head := head, guard := guard }
  else holdBegins { s with head := head, guard := guard }

/-! ### Presence (R144 to R148, R165) -/

/-- A PRESENT or REVIVING channel fails at its third miss: FAULTED or ISOLATED, misses 0, no probation,
unknown key histories and content, out of the test set, MODULE_FAULT offered, beacon re-evaluated
(R98, R119, R145, R146, R149, R165). -/
def failChannel (c : Channel) (isolated : Bool) (s : State) : State :=
  let tag := (s.slots[c]).head?
  let s := onBus c (fun b => { b with presence := (if isolated then .isolated else .faulted), misses := 0,
                                      confirmKey := .unknown, adjustKey := .unknown, probation := none }) s
  let s := onDisp c (fun d => { d with lastSent := none }) s
  let s := { s with test := s.test.map fun x => { x with set := x.set.filter (· != c) } }
  evalBeacon (offer (.moduleFault c isolated tag) s)

/-- A silent exchange to a channel is a miss; the third returns the count to 0 and changes the presence
state by the state at that moment (R144). -/
def miss (c : Channel) (s : State) : State :=
  if s.bus[c].misses + 1 < Config.missLimit then onBus c (fun b => { b with misses := b.misses + 1 }) s
  else
    match s.bus[c].presence with
    | .present => failChannel c s.bus[c].probation.isSome s
    | .reviving => failChannel c true s
    | _ => onBus c (fun b => { b with misses := 0 }) s

/-- An answered exchange returns the miss count to 0 (R144). -/
def answered (c : Channel) (s : State) : State := onBus c (fun b => { b with misses := 0 }) s

/-- The exchange in flight has ended (R137). -/
def endExchange (s : State) : State := { s with exchange := none, request := [] }

/-- A visit exchange has ended: a batch of up to 4 SHOWs follows (R141, R151). -/
def endVisit (s : State) : State := { endExchange s with batchLeft := Config.batchRoom }

/-- An exchange starts: its request goes onto the bus (R137, R192). -/
def startExchange (x : Exchange) (s : State) : State :=
  { s with exchange := some x, request := requestBytes x }

/-! ### Resets -/

/-- A power-on reset: all state as R19, R21, R81, R101, R154, R171, R178 and R181 give it. The command
queue and the sampled input levels are not the part's to reset (log 3, 12). -/
def powerOn (partnerHigh guardAsserted : Bool) (s : State) : State :=
  { State.afterPowerOn partnerHigh guardAsserted with
    pending := s.pending, dnoRdy := s.dnoRdy, upoRdy := s.upoRdy }

/-- The bus record of a channel through a string reset: presence kept, REVIVING made FAULTED,
capabilities kept (R155). -/
def busAfterStringReset (b : BusRec) : BusRec :=
  { presence := if b.presence = .reviving then .faulted else b.presence
    caps := b.caps, misses := 0, confirmKey := .unknown, adjustKey := .unknown, probation := none }

/-- A string reset: as a power-on reset, but controller time, presence states, capabilities and the
RUNNING state are kept (R48, R155, R179, section 11.5). -/
def stringReset (partnerHigh guardAsserted : Bool) (s : State) : State :=
  { powerOn partnerHigh guardAsserted s with
    time := s.time
    ctrl := s.ctrl
    disp := Vector.replicate 64 (DisplayRec.reset s.time)
    bus := mapTab s.bus fun _ b => busAfterStringReset b }

end Sys2Proof.Machine
end

