-- ==== Sys2Proof/Machine/RangeOps.lean ====
section
/-! DEFINITION. The range table's questions: covering, governing, spans, channel mapping, run stepping,
the checks of a load, and the locks (chapters Location Ranges and Location Arithmetic). -/

namespace Sys2Proof.Machine

/-! ### Covering and governing (R22, R24) -/

/-- The location lies within the entry's bounds. -/
def inBounds (e : RangeEntry) (l : Location) : Bool :=
  e.bayLo ≤ l.bay && l.bay ≤ e.bayHi && e.levLo ≤ l.level && l.level ≤ e.levHi
    && e.posLo ≤ l.pos && l.pos ≤ e.posHi

/-- A BLOCK or SHADOW entry whose bounds hold the location covers it (R22). -/
def covers (e : RangeEntry) (l : Location) : Bool := e.mode != .off && inBounds e l

/-- The lowest-numbered covering entry (R22). -/
def governing (r : Tab 16 RangeEntry) (l : Location) : Option EntryNo :=
  (List.finRange 16).find? fun i => covers r[i] l

/-! ### Spans (R23) -/

/-- B·L·P, taken in full (R23, R32). -/
def spanSize (e : RangeEntry) : Nat :=
  (e.bayHi + 1 - e.bayLo) * (e.levHi + 1 - e.levLo) * (e.posHi + 1 - e.posLo)

/-- The channel lies in the span of a BLOCK entry; other entries have no span (R23). -/
def inSpan (e : RangeEntry) (c : Channel) : Bool :=
  e.mode == .block && e.base ≤ c.val && c.val < e.base + spanSize e

/-- Two entries' spans share a channel (R33). -/
def spansOverlap (a b : RangeEntry) : Bool :=
  a.mode == .block && b.mode == .block && a.base < b.base + spanSize b && b.base < a.base + spanSize a
    && 0 < spanSize a && 0 < spanSize b

/-! ### Channel mapping (R40) -/

/-- The effective position offset q (R40). -/
def posOffset (e : RangeEntry) (l : Location) : Nat :=
  let p := e.posHi + 1 - e.posLo
  let dp := l.pos - e.posLo
  let evenLevel := (l.level - e.levLo) % 2 == 0
  match e.order with
  | .normal => dp
  | .reversed => p - 1 - dp
  | .serpentine => if evenLevel then dp else p - 1 - dp
  | .serpentineReversed => if evenLevel then p - 1 - dp else dp

/-- The index of a covered location within the span: db·L·P + dl·P + q (R40). -/
def spanIndex (e : RangeEntry) (l : Location) : Nat :=
  (l.bay - e.bayLo) * (e.levHi + 1 - e.levLo) * (e.posHi + 1 - e.posLo)
    + (l.level - e.levLo) * (e.posHi + 1 - e.posLo) + posOffset e l

/-- The channel of a covered location of a BLOCK entry: base + index, below 64 for every entry a load
takes (R40, R41; log 15). -/
def mapChannel (e : RangeEntry) (l : Location) : Channel := Fin.ofNat 64 (e.base + spanIndex e l)

/-- The answer to a match request (R24). -/
inductive MatchResult where
  | none
  | shadow (i : EntryNo)
  | block (i : EntryNo) (c : Channel)
deriving DecidableEq, Repr

/-- A match request; it changes nothing (R24). -/
def matchLocation (r : Tab 16 RangeEntry) (l : Location) : MatchResult :=
  match governing r l with
  | .none => .none
  | .some i => if r[i].mode = .block then .block i (mapChannel r[i] l) else .shadow i

/-! ### Stepping a run (R42, R43) -/

/-- The location that follows within the entry, none at the end of its rectangle (R42, R43). -/
def nextLocation (d : Direction) (e : RangeEntry) (l : Location) : Option Location :=
  match d with
  | .ascending =>
    if l.pos + 1 ≤ e.posHi then some { l with pos := l.pos + 1 }
    else if l.level + 1 ≤ e.levHi then some { l with pos := e.posLo, level := l.level + 1 }
    else if l.bay + 1 ≤ e.bayHi then some { pos := e.posLo, level := e.levLo, bay := l.bay + 1 }
    else none
  | .descending =>
    if e.posLo + 1 ≤ l.pos then some { l with pos := l.pos - 1 }
    else if e.levLo + 1 ≤ l.level then some { l with pos := e.posHi, level := l.level - 1 }
    else if e.bayLo + 1 ≤ l.bay then some { pos := e.posHi, level := e.levHi, bay := l.bay - 1 }
    else none

/-! ### Loading (R28 to R35) -/

/-- The k-th index of a window, counting on from 15 to 0 (R28). -/
def windowIndex (first k : Nat) : EntryNo := Fin.ofNat 16 (first + k)

/-- The entry a load writes, where its codes name values; locked no (R30, R35). -/
def entryOf (o : EntryOp) : Option RangeEntry :=
  match o.mode, o.order with
  | some m, some w =>
    some { mode := m, bayLo := o.bayLo, bayHi := o.bayHi, levLo := o.levLo, levHi := o.levHi,
           posLo := o.posLo, posHi := o.posHi, base := o.base, order := w,
           permPost := o.permPost, permRun := o.permRun, permTest := o.permTest, locked := false }
  | _, _ => none

/-- Field values the part can hold (R30). -/
def fieldsFit (e : RangeEntry) : Bool :=
  e.bayLo ≤ 4095 && e.bayHi ≤ 4095 && e.levLo ≤ 31 && e.levHi ≤ 31 && e.posLo ≤ 127 && e.posHi ≤ 127
    && e.base ≤ 63

/-- The geometry check of a BLOCK entry (R32). -/
def geometryFits (e : RangeEntry) : Bool :=
  e.bayLo ≤ e.bayHi && e.levLo ≤ e.levHi && e.posLo ≤ e.posHi && e.base + spanSize e ≤ 64

/-- Step 2 of R31 for one entry of the frame: R30 and, for BLOCK, R32. -/
def entryPasses (o : EntryOp) : Bool :=
  match entryOf o with
  | none => false
  | some e => fieldsFit e && (e.mode != .block || geometryFits e)

/-- The frame's entries with their target indices, in window order (R28). -/
def loadWindow (first : Nat) (ops : List EntryOp) : List (EntryNo × EntryOp) :=
  ops.mapIdx fun k o => (windowIndex first k, o)

/-- The table that would result (R33, R35). -/
def loadedTable (r : Tab 16 RangeEntry) (w : List (EntryNo × EntryOp)) : Tab 16 RangeEntry :=
  w.foldl (fun r x => match entryOf x.2 with | some e => r.set x.1 e | none => r) r

/-- Entry i of the table overlaps some other BLOCK entry (R33). -/
def overlapsOther (r : Tab 16 RangeEntry) (i : EntryNo) : Bool :=
  (List.finRange 16).any fun j => j != i && spansOverlap r[i] r[j]

/-- A replacement of a BLOCK entry that differs in mode, bounds, base or order (R34). -/
def geometryChange (old new : RangeEntry) : Bool :=
  old.mode == .block &&
    !(old.mode == new.mode && old.bayLo == new.bayLo && old.bayHi == new.bayHi
      && old.levLo == new.levLo && old.levHi == new.levHi && old.posLo == new.posLo
      && old.posHi == new.posHi && old.base == new.base && old.order == new.order)

/-- Some channel of the entry's span has a non-empty slot list (R34). -/
def spanBusy (slots : Tab 64 (List Tag)) (e : RangeEntry) : Bool :=
  channels.any fun c => inSpan e c && !slots[c].isEmpty

/-- The checks of a load in the order of R31; none where all pass. -/
def loadFails (r : Tab 16 RangeEntry) (slots : Tab 64 (List Tag)) (w : List (EntryNo × EntryOp)) :
    Option (Reason × EntryNo) :=
  match w.find? fun x => r[x.1].locked with
  | some x => some (.locked, x.1)
  | none =>
    match w.find? fun x => !entryPasses x.2 with
    | some x => some (.badEntry, x.1)
    | none =>
      match w.find? fun x => overlapsOther (loadedTable r w) x.1 with
      | some x => some (.badEntry, x.1)
      | none =>
        match w.find? fun x => geometryChange r[x.1] (loadedTable r w)[x.1] && spanBusy slots r[x.1] with
        | some x => some (.rangeBusy, x.1)
        | none => none

/-- The locks permit the channel to be tested (R37). -/
def testPermitted (r : Tab 16 RangeEntry) (c : Channel) : Bool :=
  (List.finRange 16).all fun i => !(r[i].locked && inSpan r[i] c) || r[i].permTest

end Sys2Proof.Machine
end

