-- ==== Sys2Proof/Machine/StringPort.lean ====
section
/-! DEFINITION. The string port: reception and dispatch of frames, resets and breaks, terminal status,
the relay lines and the up-lane merge (chapter The Aisle String). -/

namespace Sys2Proof.Machine

/-- What a command answers when it runs. -/
abbrev Result := Host.Outcome State Fault Refusal

/-! ### Reception and dispatch, shared by the frame commands -/

/-- A frame completes on DNI: R4's table up to acceptance, and then what `act` does with it. -/
def receiveDown (f : Frame) (act : Frame → State → State) (s : State) : State :=
  match checkDown f with
  | .badCheck => countCheck .down s
  | .malformed => countCheck .down s
  | .good => if s.downBuf.length < Config.relayRoom then act f s else countOverrun .down s

/-- A frame completes on UPI while the segment is not terminal: R4's table, R16. -/
def receiveUp (f : Frame) (s : State) : State :=
  match checkUp f with
  | .badCheck => countCheck .up s
  | .malformed => countCheck .up s
  | .good =>
    if s.upBuf.length < Config.relayRoom then { s with upBuf := s.upBuf ++ [f] } else countOverrun .up s

/-- How a management frame is addressed to this segment (R13). -/
inductive Addressing where
  | here
  | broadcast
  | elsewhere
deriving DecidableEq, Repr

/-- The segment byte against this segment's number: 255 broadcast, 1 to 250 one segment (R13). -/
def addressing (s : State) (seg : Byte) : Addressing :=
  if seg = 255 then .broadcast
  else if seg = s.segNum ∧ 1 ≤ seg.toNat ∧ seg.toNat ≤ 250 then .here
  else .elsewhere

/-- What an owning block gives back for a management frame: the reason, the failing index, the body. -/
structure Answer where
  reason  : Reason
  failing : Option Byte
  body    : AnswerBody
deriving DecidableEq, Repr

/-- The answer OK with a body. -/
def okWith (b : AnswerBody) : Answer := { reason := .ok, failing := none, body := b }

/-- A refusing answer. -/
def refuseWith (r : Reason) (i : Option Byte) : Answer := { reason := r, failing := i, body := .none }

/-- An addressed management frame: not acted on without answer room; NOT_READY while STARTING but for
ASK STATUS; otherwise the owning block acts and its ANSWER is taken in (R13, R179). -/
def answerFrame (k : Kind) (act : State → State × Answer) (s : State) : State :=
  if s.answerRoom then
    if s.ctrl = .starting ∧ k ≠ .askStatus then record (.answer k .notReady none .none) s
    else
      let r := act s
      record (.answer k r.2.reason r.2.failing r.2.body) r.1
  else s

/-- Dispatch of an accepted management frame other than ENUMERATE: consumed, acted on and relayed, or
relayed alone (R10, R13). -/
def dispatchManagement (k : Kind) (act : Frame → State → State × Answer) (f : Frame) (s : State) : State :=
  match addressing s f.segment with
  | .here => answerFrame k (act f) s
  | .broadcast => relayDown f (answerFrame k (act f) s)
  | .elsewhere => relayDown f s

/-- A management frame completes on DNI. -/
def managementFrame (k : Kind) (rx : RxFrame) (act : Frame → State → State × Answer) (s : State) : State :=
  receiveDown (frameOf (kindCode k) rx) (dispatchManagement k act) s

/-- The entry and channel when a location is this segment's: BLOCK governs it and the controller is
RUNNING (R11). -/
def ownedBy (s : State) (loc : Location) : Option (EntryNo × Channel) :=
  if s.ctrl = .running then
    match matchLocation s.ranges loc with
    | .block i c => some (i, c)
    | .shadow _ => none
    | .none => none
  else none

/-- A task frame that this segment does not take: UNCLAIMED at the terminal when unmarked, relayed
otherwise (R11, lines 3 and 4). -/
def passFrame (k : Kind) (tag : Tag) (loc : Location) (f : Frame) (s : State) : State :=
  if s.terminal && !claimMark f then offer (.unclaimed tag loc k) s else relayDown f s

/-- The claim rules for an accepted task frame (R11); `room` is R12's condition, made on RUN alone. -/
def claimFrame (k : Kind) (tag : Tag) (loc : Location) (room : Bool)
    (act : EntryNo → Channel → State → State) (f : Frame) (s : State) : State :=
  match ownedBy s loc with
  | none => passFrame k tag loc f s
  | some (i, c) =>
    if claimMark f then relayDown f (offer (.doubleClaim tag loc) s)
    else if room then relayDown (markClaimed f) (act i c s)
    else passFrame k tag loc f s

/-! ### Resets and breaks -/

/-- POWER_ON_RESET (R153, R179). -/
def execPowerOnReset (partnerHigh guardAsserted : Bool) (s : State) : Result :=
  .next (powerOn partnerHigh guardAsserted s)

/-- BREAK: a string reset while RUNNING, a power-on reset while STARTING, and the break is relayed on
DNO; a line that stays spacing gives no second break (R8, R9). -/
def execLineBreak (partnerHigh guardAsserted : Bool) (s : State) : Result :=
  if s.breakWait then .next s
  else
    let r := if s.ctrl = .running then stringReset partnerHigh guardAsserted s
             else powerOn partnerHigh guardAsserted s
    .next { r with dno := .spacing, breakWait := true }

/-- BREAK_RELAY_END: DNO released from spacing, the detector ready for a new break (R8, log 6). -/
def execBreakRelayEnd (s : State) : Result :=
  if s.breakWait then .next { s with dno := .idle, breakWait := false } else .fault .noBreakRelay

/-! ### Terminal status -/

/-- DNO when the segment becomes terminal: a frame is abandoned, a relayed break runs on (R2, R8, log 17). -/
def abandonDno : DnoLine → DnoLine
  | .spacing => .spacing
  | .sending _ => .idle
  | .idle => .idle

/-- TERMINAL_STATUS_CHANGE: PARTNER has held its new level for 20 ms (R2). -/
def execTerminalStatusChange (partnerHigh : Bool) (s : State) : Result :=
  if partnerHigh = s.terminal then .next s
  else if partnerHigh then .next { s with terminal := true, downBuf := [], dno := abandonDno s.dno }
  else .next { s with terminal := false }

/-! ### Frames that are not acted on -/

/-- An early discard is counted, but for spacing that lasts into a break (R3). -/
def earlyCounted : EarlyCause → Bool
  | .lengthOver => true
  | .stopMissing marksInTime => marksInTime
  | .markingGap => true

/-- FRAME_EARLY_DISCARD: a check error of its lane; UPI is ignored at a terminal (R2, R3, R5). -/
def execFrameEarlyDiscard (lane : StringLane) (cause : EarlyCause) (s : State) : Result :=
  .next (if earlyCounted cause && !(lane == .up && s.terminal) then countCheck lane s else s)

/-- DISCARDED_FRAME: bad check word or malformed length is a check error, a full relay buffer an overrun
(R4, R5). A frame that R4 does not discard is no such event. -/
def execDiscardedFrame (lane : StringLane) (kind : Byte) (rx : RxFrame) (s : State) : Result :=
  let f := frameOf kind rx
  match lane with
  | .down =>
    match checkDown f with
    | .badCheck => .next (countCheck .down s)
    | .malformed => .next (countCheck .down s)
    | .good =>
      if s.downBuf.length < Config.relayRoom then .fault .frameNotDiscarded
      else .next (countOverrun .down s)
  | .up =>
    if s.terminal then .next s
    else
      match checkUp f with
      | .badCheck => .next (countCheck .up s)
      | .malformed => .next (countCheck .up s)
      | .good =>
        if s.upBuf.length < Config.relayRoom then .fault .frameNotDiscarded
        else .next (countOverrun .up s)

/-- UNKNOWN_KIND_FRAME: relayed unaltered or dropped at the terminal, not acted on (R4, R10). -/
def execUnknownKindFrame (kind : Byte) (rx : RxFrame) (s : State) : Result :=
  if (kindOf kind).isSome then .fault .kindIsKnown else .next (receiveDown (frameOf kind rx) relayDown s)

/-- UPI_SPACING: a partial up frame is dropped uncounted; nothing is relayed and nothing reset (R9). The
state holds no partial frame (log 2). -/
def execUpiSpacing (s : State) : Result := .next s

/-- UP_FRAME_ACCEPTED: into the up relay buffer untouched; UPI is ignored at a terminal (R2, R16). -/
def execUpFrameAccepted (kind : Byte) (rx : RxFrame) (s : State) : Result :=
  .next (if s.terminal then s else receiveUp (frameOf kind rx) s)

/-! ### Enumeration (R14, R15) -/

/-- The segment number taken from N (R14). -/
def numberTaken (n : Byte) : Byte := if 1 ≤ n.toNat ∧ n.toNat ≤ 250 then n else 0

/-- The N relayed (R14). -/
def numberRelayed (n : Byte) : Byte := if 1 ≤ n.toNat ∧ n.toNat ≤ 250 then n + 1 else n

/-- The count of an ENUM_END from the N the terminal would relay (R15). -/
def enumCount (relayed : Byte) : Nat :=
  if 251 ≤ relayed.toNat then 250 else relayed.toNat - 1

/-- Dispatch of an accepted ENUMERATE (R10, R14, R15). -/
def dispatchEnumerate (f : Frame) (s : State) : State :=
  let n := byteAt f.payload 0
  let t := { s with segNum := numberTaken n }
  if s.terminal then
    if s.answerRoom then record (.enumEnd (enumCount (numberRelayed n))) t else s
  else relayDown (renumbered f (numberRelayed n)) t

/-- ENUMERATE. -/
def execEnumerate (rx : RxFrame) (s : State) : Result :=
  .next (receiveDown (frameOf (kindCode .enumerate) rx) dispatchEnumerate s)

/-! ### Transmission -/

/-- DOWN_RELAY_START: while not terminal, DNO idle and DNO_RDY asserted, the oldest frame starts (R1, R6);
otherwise nothing starts. -/
def execDownRelayStart (dnoRdy : Bool) (s : State) : Result :=
  let t := { s with dnoRdy := dnoRdy }
  match s.downBuf with
  | [] => .next t
  | f :: _ =>
    if !s.terminal && s.dno == .idle && dnoRdy then .next { t with dno := .sending f } else .next t

/-- DOWN_RELAY_COMPLETE: the frame leaves the buffer at its last byte (R6). -/
def execDownRelayComplete (s : State) : Result :=
  match s.dno with
  | .sending _ => .next { s with downBuf := s.downBuf.drop 1, dno := .idle }
  | .idle => .fault .nothingSent
  | .spacing => .fault .nothingSent

/-- Which requester the merge arbiter grants: alternating while both offer (R17). -/
def mergeGrant (s : State) : Option UpoSend :=
  match s.queue, s.upBuf with
  | [], [] => none
  | r :: _, [] => some { source := .queue, frame := reportFrame r }
  | [], f :: _ => some { source := .relay, frame := f }
  | r :: _, f :: _ =>
    if s.lastSource = .relay then some { source := .queue, frame := reportFrame r }
    else some { source := .relay, frame := f }

/-- UP_MERGE_GRANT: with UPO idle and UPO_RDY asserted, the granted frame starts and its source becomes
the source sent last; otherwise UPO stays as it is (R1, R17, R18). -/
def execUpMergeGrant (upoRdy : Bool) (s : State) : Result :=
  let t := { s with upoRdy := upoRdy }
  if s.upo.isNone && upoRdy then
    match mergeGrant s with
    | none => .next t
    | some g => .next { t with upo := some g, lastSource := g.source }
  else .next t

/-- REPORT_FRAME_SENT: the record is removed as the oldest (R18, R172). -/
def execReportFrameSent (s : State) : Result :=
  match s.upo with
  | some g =>
    if g.source = .queue then .next { s with upo := none, queue := s.queue.drop 1 } else .fault .nothingSent
  | none => .fault .nothingSent

/-- UP_RELAY_COMPLETE: the frame leaves the up relay buffer (R16). -/
def execUpRelayComplete (s : State) : Result :=
  match s.upo with
  | some g =>
    if g.source = .relay then .next { s with upo := none, upBuf := s.upBuf.drop 1 } else .fault .nothingSent
  | none => .fault .nothingSent

end Sys2Proof.Machine
end

