-- ==== Sys2Proof/Machine/Management.lean ====
section
/-! DEFINITION. The management frames: setup, table loads, locks, purges and sweeps, holds, lamp test,
revival and the status queries. Each acts as its owning block states; addressing, NOT_READY and answer
room are dispatchManagement's (R13, R179). -/

namespace Sys2Proof.Machine

/-! ### SETUP (R180, R181) -/

/-- All five parameters are written at one event; the beacon follows its enable at once (R169, R181). -/
def actSetup (f : Frame) (s : State) : State × Answer :=
  let v := setupOp f.payload
  (evalBeacon { s with settleMs := v.settleMs, doneHoldS := v.doneHoldS, probationS := v.probationS,
                       guardSteps := v.guardSteps, beaconEnable := v.beaconEnable },
   okWith (.setup v))

/-- SETUP. -/
def execSetup (rx : RxFrame) (s : State) : Result := .next (managementFrame .setup rx actSetup s)

/-! ### LANES (R62 to R64) -/

/-- The k-th lane of a window, counting on from 7 to 0 (R62). -/
def windowLane (first k : Nat) : LaneNo := Fin.ofNat 8 (first + k)

/-- The lane entry a load writes, where its codes name values (R62). -/
def laneEntryOf (o : LaneOp) : Option LaneEntry :=
  match o.colour, o.cadence with
  | some c, some d => some { enabled := o.enabled, colour := c, cadence := d }
  | _, _ => none

/-- The lane has a QUEUED or SHOWING record (R63). -/
def laneHasWork (pool : List Task) (n : LaneNo) : Bool := pool.any fun t => t.lane == n && t.state != .done

/-- The frame's entries with their lanes, in window order (R62). -/
def laneWindow (first : Nat) (ops : List LaneOp) : List (LaneNo × LaneOp) :=
  ops.mapIdx fun k o => (windowLane first k, o)

/-- The lane table after the load (R64). -/
def loadedLanes (t : Tab 8 LaneEntry) (w : List (LaneNo × LaneOp)) : Tab 8 LaneEntry :=
  w.foldl (fun t x => match laneEntryOf x.2 with | some e => t.set x.1 e | none => t) t

/-- The colour or cadence of a lane differs between two lane tables (R64). -/
def lookChanges (old new : Tab 8 LaneEntry) (n : LaneNo) : Bool :=
  old[n].colour != new[n].colour || old[n].cadence != new[n].cadence

/-- The SHOWING task of the channel carries a lane whose colour or cadence the load changed (R64, R94). -/
def showsChangedLane (s : State) (new : Tab 8 LaneEntry) (c : Channel) : Bool :=
  match showingOf s c with
  | some t => lookChanges s.lanes new t.lane
  | none => false

/-- The checks of R62 in order, and the write of R64. -/
def actLanes (f : Frame) (s : State) : State × Answer :=
  let first := (byteAt f.payload 0).toNat
  let w := laneWindow first (laneOps f.payload)
  if 7 < first then (s, refuseWith .badEntry none)
  else
    match w.find? fun x => (laneEntryOf x.2).isNone with
    | some x => (s, refuseWith .badEntry (some (byteOf x.1.val)))
    | none =>
      match w.find? fun x => !x.2.enabled && laneHasWork s.pool x.1 with
      | some x => (s, refuseWith .laneBusy (some (byteOf x.1.val)))
      | none =>
        let new := loadedLanes s.lanes w
        (onDisps (showsChangedLane s new) markDirty { s with lanes := new }, okWith .none)

/-- LANES. -/
def execLanes (rx : RxFrame) (s : State) : Result := .next (managementFrame .lanes rx actLanes s)

/-! ### RANGES (R28 to R35), LOCK (R36), PURGE (R38, R39) -/

/-- A load is judged whole and written whole or not at all (R29, R30, R31). -/
def actRanges (f : Frame) (s : State) : State × Answer :=
  let first := (byteAt f.payload 0).toNat
  if 15 < first then (s, refuseWith .badEntry none)
  else
    let w := loadWindow first (entryOps f.payload)
    match loadFails s.ranges s.slots w with
    | some (r, i) => (s, refuseWith r (some (byteOf i.val)))
    | none => ({ s with ranges := loadedTable s.ranges w }, okWith .none)

/-- RANGES. -/
def execRanges (rx : RxFrame) (s : State) : Result := .next (managementFrame .ranges rx actRanges s)

/-- The entry is named by a LOCK's index list; an empty list is the all form (R36, R190). -/
def lockNames (p : List Byte) (i : EntryNo) : Bool := p.isEmpty || p.any fun b => b.toNat == i.val

/-- Every named entry becomes locked, or none when an index is above 15 (R36). -/
def actLock (f : Frame) (s : State) : State × Answer :=
  match f.payload.find? fun b => 15 < b.toNat with
  | some b => (s, refuseWith .badEntry (some b))
  | none =>
    ({ s with ranges := mapTab s.ranges fun i e => { e with locked := e.locked || lockNames f.payload i } },
     okWith .none)

/-- LOCK. -/
def execLock (rx : RxFrame) (s : State) : Result := .next (managementFrame .lock rx actLock s)

/-- Every QUEUED and SHOWING task on the named entry's span is withdrawn and counted (R38, R39). -/
def actPurge (f : Frame) (s : State) : State × Answer :=
  let b := byteAt f.payload 0
  if h : b.toNat < 16 then
    let e := s.ranges[b.toNat]
    let p : Task → Bool := fun t => inSpan e t.channel
    (freeListed p s, okWith (.count (countListed p s)))
  else (s, refuseWith .badEntry (some b))

/-- PURGE. -/
def execPurge (rx : RxFrame) (s : State) : Result := .next (managementFrame .purge rx actPurge s)

/-! ### SWEEP (R78, R79) -/

/-- Every QUEUED and SHOWING task of the lane, or of all lanes, is freed and counted (R79). -/
def actSweep (f : Frame) (s : State) : State × Answer :=
  match sweepOp f.payload with
  | .bad b => (s, refuseWith .badEntry (some b))
  | .all => (freeListed (fun _ => true) s, okWith (.count (countListed (fun _ => true) s)))
  | .lane n => (freeListed (fun t => t.lane == n) s, okWith (.count (countListed (fun t => t.lane == n) s)))

/-- SWEEP. -/
def execSweep (rx : RxFrame) (s : State) : Result := .next (managementFrame .sweep rx actSweep s)

/-! ### HOLD, RESUME (R158, R159) -/

/-- HEAD joins the hold set, or ALREADY_HELD (R158). -/
def actHold (_ : Frame) (s : State) : State × Answer :=
  if s.head then (s, refuseWith .alreadyHeld none) else (setHold true s.guard s, okWith .none)

/-- HOLD. -/
def execHold (rx : RxFrame) (s : State) : Result := .next (managementFrame .hold rx actHold s)

/-- HEAD leaves the hold set, or NOT_HELD (R159). -/
def actResume (_ : Frame) (s : State) : State × Answer :=
  if s.head then (setHold false s.guard s, okWith .none) else (s, refuseWith .notHeld none)

/-- RESUME. -/
def execResume (rx : RxFrame) (s : State) : Result := .next (managementFrame .resume rx actResume s)

/-! ### REVIVE (R147) -/

/-- The channel becomes REVIVING with miss count 0; the hold unit is told (R147, R168). -/
def startRevive (c : Channel) (s : State) : State :=
  evalBeacon (onBus c (fun b => { b with presence := .reviving, misses := 0 }) s)

/-- The table of R147. -/
def actRevive (f : Frame) (s : State) : State × Answer :=
  let b := byteAt f.payload 0
  let forced := byteAt f.payload 1 != 0
  if h : b.toNat < 64 then
    let c : Channel := ⟨b.toNat, h⟩
    match s.presenceOf c with
    | .present => (s, refuseWith .notFaulted none)
    | .reviving => (s, refuseWith .notFaulted none)
    | .isolated => if forced then (startRevive c s, okWith .none) else (s, refuseWith .isolatedNeedsForce none)
    | .faulted => (startRevive c s, okWith .none)
    | .absent => (startRevive c s, okWith .none)
  else (s, refuseWith .badEntry (some b))

/-- REVIVE. -/
def execRevive (rx : RxFrame) (s : State) : Result := .next (managementFrame .revive rx actRevive s)

/-! ### TEST (R164 to R166) -/

/-- The test set formed at a TEST: PRESENT channels that the locks permit (R37, R165). -/
def testSet (s : State) : List Channel := channels.filter fun c => s.isPresent c && testPermitted s.ranges c

/-- The test starts or replaces the active one: old and new sets dirty, no settle window (R94, R164, R166). -/
def startTest (colour : Colour) (seconds : Nat) (s : State) : State :=
  { onDisps (fun c => s.inTest c || (testSet s).contains c) markDirty s with
    test := some { colour := colour, endTime := ahead s.time (seconds * 100), set := testSet s } }

/-- The table of R164. -/
def actTest (f : Frame) (s : State) : State × Answer :=
  match colourOf (byteAt f.payload 0).toNat with
  | none => (s, refuseWith .badEntry none)
  | some colour =>
    if s.held then (s, refuseWith .held none)
    else
      (startTest colour (testSeconds f.payload) s,
       okWith (.lampTest (testSeconds f.payload) (testSet s).length))

/-- TEST. -/
def execTest (rx : RxFrame) (s : State) : Result := .next (managementFrame .test rx actTest s)

/-! ### Status queries (R182 to R184) -/

/-- The status summary as it stands before the answer is taken in (R182). -/
def statusOf (s : State) : StatusBody :=
  { ctrl := s.ctrl, segment := s.segNum,
    queued := s.poolCount .queued, showing := s.poolCount .showing, done := s.poolCount .done,
    free := s.poolFree, depth := s.queue.length, head := s.head, guard := s.guard,
    testing := s.test.isSome, beaconEnable := s.beaconEnable, beacon := s.beacon,
    absent := s.presenceCount .absent, present := s.presenceCount .present,
    faulted := s.presenceCount .faulted, reviving := s.presenceCount .reviving,
    isolated := s.presenceCount .isolated, withheld := s.withheld,
    downCheck := s.downCheck, downOverrun := s.downOverrun, upCheck := s.upCheck, upOverrun := s.upOverrun }

/-- The summary is answered, and the mark and the line-error counts are cleared (R5, R176, R182). -/
def actAskStatus (_ : Frame) (s : State) : State × Answer :=
  ({ s with withheld := false, downCheck := 0, downOverrun := 0, upCheck := 0, upOverrun := 0 },
   okWith (.status (statusOf s)))

/-- ASK_STATUS. -/
def execAskStatus (rx : RxFrame) (s : State) : Result := .next (managementFrame .askStatus rx actAskStatus s)

/-- The view from one channel (R183). -/
def slotOf (s : State) (c : Channel) : SlotBody :=
  { presence := s.presenceOf c, caps := s.bus[c].caps, settle := s.disp[c].settleRemaining s.time,
    content := s.disp[c].lastSent, tags := s.slots[c] }

/-- One channel is answered; nothing changes (R183). -/
def actAskSlot (f : Frame) (s : State) : State × Answer :=
  let b := byteAt f.payload 0
  if h : b.toNat < 64 then (s, okWith (.slot (slotOf s ⟨b.toNat, h⟩)))
  else (s, refuseWith .badEntry (some b))

/-- ASK_SLOT. -/
def execAskSlot (rx : RxFrame) (s : State) : Result := .next (managementFrame .askSlot rx actAskSlot s)

/-- One live record of the whole pool is answered; nothing changes (R184). -/
def actAskTask (f : Frame) (s : State) : State × Answer :=
  match findTag s.pool (wordAt f.payload 0) with
  | some t => (s, okWith (.task t))
  | none => (s, refuseWith .unknownTag none)

/-- ASK_TASK. -/
def execAskTask (rx : RxFrame) (s : State) : Result := .next (managementFrame .askTask rx actAskTask s)

end Sys2Proof.Machine
end

