-- ==== Sys2Proof/Machine/ShelfBus.lean ====
section
/-! DEFINITION. The shelf bus: visits, SHOWs and their content, key readings and presses, misses, revival
and the inventory (chapters Slot Lists, Keys and Confirmation, Shelf Bus). -/

namespace Sys2Proof.Machine

/-! ### Display content (R45, R89, R90) -/

/-- The largest number a module of d digits can show (R45). -/
def dmax (digits : Nat) : Nat := 10 ^ digits - 1

/-- The digits of the TASK line (R45, R90). -/
def taskDigits (digits : Nat) (t : Task) : Digits :=
  if t.q = 0 then .dashes else .number (min t.a (dmax digits)) (dmax digits < t.a)

/-- The TASK line (R90). -/
def taskContent (lane : LaneEntry) (digits : Nat) (t : Task) : Content :=
  { lamp := some { colour := lane.colour, cadence := if t.expired then .fast else lane.cadence },
    digits := taskDigits digits t }

/-- The WAIT line: FAST, everything else as the TASK line (R89). -/
def waitContent (lane : LaneEntry) (digits : Nat) (t : Task) : Content :=
  { lamp := some { colour := lane.colour, cadence := .fast }, digits := taskDigits digits t }

/-- The lines of R89 below TEST and HOLD. -/
def listContent (s : State) (c : Channel) (digits : Nat) : Content :=
  match showingOf s c with
  | none => { lamp := none, digits := .blank }
  | some t =>
    if s.disp[c].blinkRuns s.time then waitContent s.lanes[t.lane] digits t
    else taskContent s.lanes[t.lane] digits t

/-- The content derived for a channel: the first line of R89 that applies. -/
def deriveContent (s : State) (c : Channel) (digits : Nat) : Content :=
  match s.test.filter (·.set.contains c) with
  | some x => { lamp := some { colour := x.colour, cadence := .steady }, digits := .all }
  | none => if s.held then { lamp := none, digits := .bars } else listContent s c digits

/-! ### The arbiter (R140, R141, R151) -/

/-- The first channel from the cursor upward that is PRESENT or REVIVING (R140). -/
def nextVisit (s : State) : Option Channel :=
  (channels.map (s.cursor + ·)).find? fun c => s.presenceOf c == .present || s.presenceOf c == .reviving

/-- The lowest-numbered channel that is both PRESENT and dirty (R95, R141). -/
def nextShow (s : State) : Option Channel := channels.find? fun c => s.isPresent c && s.disp[c].dirty

/-- A visit while RUNNING: POLL for PRESENT, DESCRIBE for REVIVING, cursor to the next channel; none when
no channel is either (R140). -/
def visitRunning (s : State) : State :=
  match nextVisit s with
  | none => s
  | some c =>
    { startExchange (if s.isPresent c then .poll c else .describe c) s with cursor := c + 1, batchLeft := 0 }

/-- VISIT: at most one exchange at a time; the inventory's DESCRIBE while STARTING; while the batch still has
a SHOW to make, no visit is made and nothing changes (R137, R140, R141, R151; log 14). -/
def execVisit (s : State) : Result :=
  if s.exchange.isSome then .fault .busOccupied
  else if 0 < s.batchLeft ∧ (nextShow s).isSome then .next s
  else
    match s.ctrl with
    | .starting => .next { startExchange (.inventory s.inventory) s with batchLeft := 0 }
    | .running => .next (visitRunning s)

/-- SHOW_START: content derived, mark cleared; with no dirty PRESENT channel the batch ends; after the last
SHOW of a batch none is made and nothing changes (R89, R96, R141; log 14, 15). -/
def execShowStart (s : State) : Result :=
  if s.exchange.isSome then .fault .busOccupied
  else if s.batchLeft = 0 then .next s
  else
    match nextShow s with
    | none => .next { s with batchLeft := 0 }
    | some c =>
      match s.bus[c].caps with
      | none => .fault .capsAbsent
      | some k =>
        .next { startExchange (.display c (deriveContent s c k.digits))
                  (onDisp c (fun d => { d with dirty := false }) s)
                with batchLeft := s.batchLeft - 1 }

/-! ### Key histories (R117 to R119) -/

/-- The settled level after a reading (R118). -/
def settledAfter (earlier latest settled : Option KeyLevel) : Option KeyLevel :=
  match earlier, latest with
  | some .up, some .up => some .up
  | some .down, some .down => some .down
  | _, _ => settled

/-- A reading shifts into a key history (R118). -/
def readKey (k : KeyLevel) (h : KeyHistory) : KeyHistory :=
  { earlier := h.latest, latest := some k, settled := settledAfter h.latest (some k) h.settled }

/-- The reading makes a press: the settled level changes from UP to DOWN (R118). -/
def makesPress (k : KeyLevel) (h : KeyHistory) : Bool :=
  h.settled == some .up && (readKey k h).settled == some .down

/-! ### Presses (R121 to R129) -/

/-- A taken adjust press: A lowered by 1 but not below 0, adjusted yes (R46). -/
def adjustTask (t : Task) : Task := { t with a := t.a - 1, adjusted := true }

/-- An adjust press on channel c, judged by the cases of R128. -/
def adjustPress (c : Channel) (s : State) : State :=
  if s.frozen then s
  else
    match showingOf s c with
    | none => s
    | some t =>
      if s.disp[c].settleOpen s.time then s
      else if t.q = 0 then s
      else onDisp c markDirty { s with pool := editTask t.tag adjustTask s.pool }

/-- A confirmed task: DONE, picked A, done hold H, everything else kept (R59, R126). -/
def confirmTask (doneHold : Nat) (t : Task) : Task :=
  { t with state := .done, picked := some t.a, doneHold := some doneHold }

/-- A taken confirm press: the task DONE and out of its list, one CONFIRMED taken in (R126, R127). -/
def takeConfirm (c : Channel) (t : Task) (s : State) : State :=
  record (.confirmed t.tag t.loc c t.lane t.q t.a (t.a < t.q))
    (restand (editTask t.tag (confirmTask s.doneHoldUnits) s.pool) (updTab s.slots c (·.drop 1)) s)

/-- The wait blink starts at the press (R92, R125). -/
def startBlink (c : Channel) (s : State) : State :=
  onDisp c (fun d => { markDirty d with waitBlinkEnd := some (ahead s.time Config.waitBlinkUnits) }) s

/-- A confirm press on channel c, judged by the cases of R121. -/
def confirmPress (c : Channel) (s : State) : State :=
  if s.frozen then s
  else
    match showingOf s c with
    | none => offer (.stalePress c none) s
    | some t =>
      if s.disp[c].settleOpen s.time then
        offer (.stalePress c (some { tag := t.tag, loc := t.loc, lane := t.lane,
                                     settle := s.disp[c].settleRemaining s.time })) s
      else if !s.essentialRoom then startBlink c s
      else takeConfirm c t s

/-- The module of the channel has an adjust key (R117, R139). -/
def hasAdjust (b : BusRec) : Bool := b.caps.any (·.adjustKey)

/-- A reading of both keys: histories shifted, and the presses it makes handed over, adjust before
confirm (R117, R118, R120). -/
def reading (c : Channel) (confirm adjust : KeyLevel) (s : State) : State :=
  let b := s.bus[c]
  let s := onBus c (fun b => { b with
    confirmKey := readKey confirm b.confirmKey
    adjustKey := if hasAdjust b then readKey adjust b.adjustKey else b.adjustKey }) s
  let s := if hasAdjust b && makesPress adjust b.adjustKey then adjustPress c s else s
  if makesPress confirm b.confirmKey then confirmPress c s else s

/-! ### Outcomes of a POLL (R117, R144) -/

/-- POLL_ANSWERED: a good answer is a reading and no miss; any other answer is silence (R117, R137, R144;
log 13). -/
def execPollAnswered (answer : List Byte) (s : State) : Result :=
  match s.exchange with
  | some (.poll c) =>
    match pollKeys c answer with
    | some (confirm, adjust) => .next (reading c confirm adjust (answered c (endVisit s)))
    | none => .next (miss c (endVisit s))
  | _ => .fault .noSuchExchange

/-- POLL_SILENT: a miss; no reading (R117, R144). -/
def execPollSilent (s : State) : Result :=
  match s.exchange with
  | some (.poll c) => .next (miss c (endVisit s))
  | _ => .fault .noSuchExchange

/-! ### Outcomes of a SHOW (R96) -/

/-- A silent SHOW: content UNKNOWN, dirty again, a miss (R96). -/
def showFails (c : Channel) (s : State) : State :=
  miss c (onDisp c (fun d => { d with lastSent := none, dirty := true }) (endExchange s))

/-- SHOW_ACKNOWLEDGED: what was carried is the last content sent (R96, R97, R144). -/
def execShowAcknowledged (answer : List Byte) (s : State) : Result :=
  match s.exchange with
  | some (.display c k) =>
    if showAnswerGood c k answer then
      .next (answered c (onDisp c (fun d => { d with lastSent := some k }) (endExchange s)))
    else .next (showFails c s)
  | _ => .fault .noSuchExchange

/-- SHOW_SILENT (R96). -/
def execShowSilent (s : State) : Result :=
  match s.exchange with
  | some (.display c _) => .next (showFails c s)
  | _ => .fault .noSuchExchange

/-! ### Outcomes of a DESCRIBE to a REVIVING channel (R148) -/

/-- A channel that has answered a DESCRIBE: PRESENT with the capabilities answered, no misses, unknown key
histories (R119, R139, R148, R151). -/
def described (k : Caps) (probation : Option Time) (_ : BusRec) : BusRec :=
  { presence := .present, caps := some k, misses := 0, confirmKey := .unknown, adjustKey := .unknown,
    probation := probation }

/-- A successful revive (R148). -/
def revived (c : Channel) (k : Caps) (s : State) : State :=
  let s := onBus c (described k (some (ahead s.time s.probationUnits))) s
  let s := onDisp c (fun d => startSettle s.time s.settleUnits (markDirty d)) s
  offer (.moduleBack c (s.slots[c]).head?) s

/-- DESCRIBE_ANSWERED (R148). -/
def execDescribeAnswered (answer : List Byte) (s : State) : Result :=
  match s.exchange with
  | some (.describe c) =>
    match describedCaps (.describe c) answer with
    | some k => .next (revived c k (endVisit s))
    | none => .next (miss c (endVisit s))
  | _ => .fault .noSuchExchange

/-- DESCRIBE_SILENT: the third miss isolates the channel (R144, R146, R148). -/
def execDescribeSilent (s : State) : Result :=
  match s.exchange with
  | some (.describe c) => .next (miss c (endVisit s))
  | _ => .fault .noSuchExchange

/-! ### The inventory (R151, R152) -/

/-- The inventory moves to the next channel, or ends with channel 63: RUNNING, poll cursor 0 (R151, R152). -/
def inventoryMoves (c : Channel) (s : State) : State :=
  if c.val = 63 then { s with ctrl := .running, cursor := 0, inventory := 0 }
  else { s with inventory := c + 1 }

/-- A silent inventory DESCRIBE: tried again, or left ABSENT at the third miss (R144, R151). -/
def inventoryFails (c : Channel) (s : State) : State :=
  if s.bus[c].misses + 1 < Config.missLimit then miss c (endVisit s)
  else inventoryMoves c (miss c (endVisit s))

/-- INVENTORY_ANSWERED (R151). -/
def execInventoryAnswered (answer : List Byte) (s : State) : Result :=
  match s.exchange with
  | some (.inventory c) =>
    match describedCaps (.inventory c) answer with
    | some k => .next (inventoryMoves c (onBus c (described k none) (endVisit s)))
    | none => .next (inventoryFails c s)
  | _ => .fault .noSuchExchange

/-- INVENTORY_SILENT (R151). -/
def execInventorySilent (s : State) : Result :=
  match s.exchange with
  | some (.inventory c) => .next (inventoryFails c s)
  | _ => .fault .noSuchExchange

end Sys2Proof.Machine
end

