-- ==== Sys2Proof/Machine/TaskFrames.lean ====
section
/-! DEFINITION. POST, RUN, AMEND, WITHDRAW and RELEASE (chapters Pick Tasks and Run Posting). -/

namespace Sys2Proof.Machine

/-- The first reason of a list of checks, each a failing condition with its reason. -/
def firstFailing {α : Type} : List (Bool × α) → Option α
  | [] => none
  | (fails, r) :: rest => if fails then some r else firstFailing rest

/-- A REFUSED record of a task frame is offered (R68). -/
def refuseTask (k : Kind) (tag : Tag) (loc : Location) (c : Channel) (r : RefuseReason) (s : State) : State :=
  offer (.refused k tag loc c r) s

/-! ### POST (R65 to R68) -/

/-- Some task in the channel's slot list carries the lane (R66). -/
def laneListed (s : State) (c : Channel) (lane : LaneNo) : Bool :=
  s.slots[c].any fun tag => (findTag s.pool tag).any (·.lane == lane)

/-- The condition of a POST holds (R66). -/
def conditionHolds (s : State) (c : Channel) (lane : LaneNo) : Condition → Bool
  | .always => true
  | .ifIdle => s.slots[c].isEmpty
  | .ifLaneFree => !laneListed s c lane
  | .ifPresent => s.isPresent c

/-- The checks of a POST in the order of R65. -/
def postCheck (s : State) (i : EntryNo) (c : Channel) (v : PostOp) : Option RefuseReason :=
  firstFailing [
    (Config.maxQuantity < v.q, .badQuantity),
    (!s.ranges[i].permPost, .notPermitted),
    (!s.lanes[v.lane].enabled, .laneDisabled),
    (s.presenceOf c == .absent, .slotAbsent),
    (s.presenceOf c == .isolated, .slotIsolated),
    ((findTag s.pool v.tag).isSome, .tagInUse),
    (!conditionHolds s c v.lane v.condition, .conditionFalse),
    (Config.listRoom ≤ s.slots[c].length, .listFull),
    (Config.poolRoom ≤ s.pool.length, .poolFull)]

/-- A fresh record: A equal to Q, adjusted no, expired no, a remaining time only for D above 0, QUEUED
until it stands first (R55, R110). -/
def newTask (tag : Tag) (loc : Location) (c : Channel) (lane : LaneNo) (urgency q deadline : Nat)
    (origin : Option RunOrigin) : Task :=
  { tag := tag, loc := loc, channel := c, lane := lane, urgency := urgency, q := q, a := q,
    adjusted := false, deadline := deadline,
    remaining := if deadline = 0 then none else some (deadline * 100),
    expired := false, state := .queued, picked := none, doneHold := none, origin := origin }

/-- The task table acts on a claimed POST (R65, R67, R68). -/
def actPost (v : PostOp) (i : EntryNo) (c : Channel) (s : State) : State :=
  match postCheck s i c v with
  | some r => refuseTask .post v.tag v.loc c r s
  | none => postTask (newTask v.tag v.loc c v.lane v.urgency v.q v.deadline none) s

/-- POST. -/
def execPost (rx : RxFrame) (s : State) : Result :=
  let v := postOp rx.payload
  .next (receiveDown (frameOf (kindCode .post) rx) (claimFrame .post v.tag v.loc true (actPost v)) s)

/-! ### RUN (R103 to R113) -/

/-- The whole-run checks in the order of R105. -/
def runCheck (s : State) (i : EntryNo) (v : RunOp) : Option RefuseReason :=
  firstFailing [
    (v.count < 1 || 32 < v.count, .runCount),
    (!(v.quantities.length == 1 || v.quantities.length == v.count), .runList),
    (!s.ranges[i].permRun, .notPermitted),
    (!s.lanes[v.lane].enabled, .laneDisabled),
    (v.quantities.any (Config.maxQuantity < ·), .badQuantity)]

/-- The quantity of the k-th task posted: its own, or the list's one (R110). -/
def runQuantity (v : RunOp) (k : Nat) : Nat :=
  if v.quantities.length = v.count then v.quantities.getD k 0 else v.quantities.getD 0 0

/-- What the walk does at one examined location (R106). -/
inductive WalkStep where
  | skip
  | stop (r : StopReason)
  | post (t : Task)
deriving DecidableEq, Repr

/-- The steps of R106 at one examined location, with k tasks posted so far (R107 to R110). -/
def walkStep (v : RunOp) (i : EntryNo) (k : Nat) (l : Location) (s : State) : WalkStep :=
  if governing s.ranges l ≠ some i then .skip
  else
    let c := mapChannel s.ranges[i] l
    if s.presenceOf c = .absent ∨ s.presenceOf c = .isolated then .skip
    else if ¬ s.slots[c].isEmpty ∧ v.termination = .stopIfOccupied then .stop .occupied
    else if ¬ s.slots[c].isEmpty ∧ v.termination = .skipIfOccupied then .skip
    else if Config.listRoom ≤ s.slots[c].length then .stop .listFull
    else if Config.poolRoom ≤ s.pool.length then .stop .poolFull
    else if (findTag s.pool (v.base + BitVec.ofNat 16 k)).isSome then .stop .tagInUse
    else .post (newTask (v.base + BitVec.ofNat 16 k) l c v.lane v.urgency (runQuantity v k) v.deadline
                  (some { base := v.base, step := k }))

/-- Where a walk ended: the tasks posted, the stop reason, the last location examined, the state. -/
structure WalkEnd where
  posted : Nat
  stop   : StopReason
  last   : Location
  state  : State

/-- The walk from a location on, k posted and `left` still wanted; it examines at most 64 locations
(R44, R106, R111, log 18). -/
def walk (v : RunOp) (i : EntryNo) : Nat → Nat → Nat → Location → State → WalkEnd
  | 0, k, _, l, s => { posted := k, stop := .rangeEnd, last := l, state := s }
  | fuel + 1, k, left, l, s =>
    match walkStep v i k l s with
    | .stop r => { posted := k, stop := r, last := l, state := s }
    | .skip =>
      match nextLocation v.direction s.ranges[i] l with
      | none => { posted := k, stop := .rangeEnd, last := l, state := s }
      | some l' => walk v i fuel k left l' s
    | .post t =>
      let s' := postTask t s
      if left ≤ 1 then { posted := k + 1, stop := .complete, last := l, state := s' }
      else
        match nextLocation v.direction s.ranges[i] l with
        | none => { posted := k + 1, stop := .rangeEnd, last := l, state := s' }
        | some l' => walk v i fuel (k + 1) (left - 1) l' s'

/-- The run posting acts on a claimed RUN: refused whole, or walked with one RUN_DONE (R105, R106, R112). -/
def actRun (v : RunOp) (i : EntryNo) (c : Channel) (s : State) : State :=
  match runCheck s i v with
  | some r => refuseTask .run v.base v.start c r s
  | none =>
    let w := walk v i Config.walkRoom 0 v.count v.start s
    record (.runDone v.base w.posted w.stop w.last) w.state

/-- RUN: acted on only with room for an essential record (R12, R104, R113). -/
def execRun (rx : RxFrame) (s : State) : Result :=
  let v := runOp rx.payload
  .next (receiveDown (frameOf (kindCode .run) rx)
    (claimFrame .run v.base v.start s.essentialRoom (actRun v)) s)

/-! ### AMEND (R47, R69, R70) -/

/-- The quantities after a taken AMEND (R47). -/
def amendTask (q : Nat) (t : Task) : Task :=
  { t with q := q, a := if t.adjusted then min t.a q else q }

/-- The task table acts on a claimed AMEND (R69, R70). -/
def actAmend (v : TagOp) (_ : EntryNo) (c : Channel) (s : State) : State :=
  if Config.maxQuantity < v.q then refuseTask .amend v.tag v.loc c .badQuantity s
  else
    match findOn s.pool c v.tag with
    | none => refuseTask .amend v.tag v.loc c .unknownTag s
    | some t =>
      match t.state with
      | .done => refuseTask .amend v.tag v.loc c .alreadyDone s
      | .queued => { s with pool := editTask v.tag (amendTask v.q) s.pool }
      | .showing =>
        onDisp c (fun d => startSettle s.time s.settleUnits (markDirty d))
          { s with pool := editTask v.tag (amendTask v.q) s.pool }

/-- AMEND. -/
def execAmend (rx : RxFrame) (s : State) : Result :=
  let v := tagOp rx.payload
  .next (receiveDown (frameOf (kindCode .amend) rx) (claimFrame .amend v.tag v.loc true (actAmend v)) s)

/-! ### WITHDRAW (R71, R72) -/

/-- A late withdrawal: with essential room the record is freed and LATE_WITHDRAW taken in; without it
nothing is done but the advisory-withheld mark (R72, R175). The record's own location is reported
(R58, R173; log 20). -/
def lateWithdraw (t : Task) (s : State) : State :=
  if s.essentialRoom then
    record (.lateWithdraw t.tag t.loc t.channel t.lane t.q (t.picked.getD 0)) (freeDone t.tag s)
  else { s with withheld := true }

/-- The task table acts on a claimed WITHDRAW (R71, R72). -/
def actWithdraw (v : TagOp) (_ : EntryNo) (c : Channel) (s : State) : State :=
  match findOn s.pool c v.tag with
  | none => refuseTask .withdraw v.tag v.loc c .unknownTag s
  | some t =>
    match t.state with
    | .done => lateWithdraw t s
    | .queued => freeListed (·.tag == v.tag) s
    | .showing => freeListed (·.tag == v.tag) s

/-- WITHDRAW. -/
def execWithdraw (rx : RxFrame) (s : State) : Result :=
  let v := tagOp rx.payload
  .next (receiveDown (frameOf (kindCode .withdraw) rx)
    (claimFrame .withdraw v.tag v.loc true (actWithdraw v)) s)

/-! ### RELEASE (R73) -/

/-- The task table acts on a claimed RELEASE (R73). -/
def actRelease (v : TagOp) (_ : EntryNo) (c : Channel) (s : State) : State :=
  match findOn s.pool c v.tag with
  | none => s
  | some t =>
    match t.state with
    | .done => freeDone v.tag s
    | .queued => refuseTask .release v.tag v.loc c .notDone s
    | .showing => refuseTask .release v.tag v.loc c .notDone s

/-- RELEASE. -/
def execRelease (rx : RxFrame) (s : State) : Result :=
  let v := tagOp rx.payload
  .next (receiveDown (frameOf (kindCode .release) rx)
    (claimFrame .release v.tag v.loc true (actRelease v)) s)

end Sys2Proof.Machine
end

