-- ==== Sys2Proof/Machine/Timers.lean ====
section
/-! DEFINITION. The advance of controller time, the expiries of every timer, and the GUARD line
(sections 3.4, 4.9, 4.10, 5.3, 8.4, 9.2, 9.4). -/

namespace Sys2Proof.Machine

/-! ### Which expiries are due -/

/-- The four conditions of R51 hold of a task: its remaining time runs. -/
def State.countsDown (s : State) (t : Task) : Bool :=
  t.state == .showing && !s.frozen && s.isPresent t.channel

/-- The deadline of a task stands at its last unit and runs (R51). -/
def State.deadlineAtLast (s : State) (t : Task) : Bool := s.countsDown t && t.remaining == some 1

/-- The done hold of a record stands at its last unit (R52). -/
def Task.holdAtLast (t : Task) : Bool := t.state == .done && t.doneHold == some 1

/-- The advance to the present controller time takes the remaining time of a SHOWING task to 0. The four
conditions of R51 held at that advance; a hold, a test or a third miss taken since came after it, and the
whole advance follows the old condition (R51, R74; log 23). -/
def State.deadlineDue (s : State) (t : Task) : Bool :=
  t.state == .showing && t.remaining == some 1 && s.lapsing.contains t.tag

/-- The advance to the present controller time takes the record's done hold to 0 (R52, R77; log 23). -/
def State.holdDue (s : State) (t : Task) : Bool := t.holdAtLast && s.lapsing.contains t.tag

/-- An end time that controller time has reached (R53). -/
def reached (t : Time) : Option Time → Bool
  | none => false
  | some e => !before t e

/-- The lamp test's end time is reached (R167). -/
def State.testDue (s : State) : Bool := reached s.time (s.test.map (·.endTime))

/-! ### The expiries -/

/-- The remaining time of a task reaches 0 and the task is expired, at one event (R51, R74). -/
def expireTask (t : Task) : Task := { t with remaining := some 0, expired := true }

/-- A SHOWING task expires: EXPIRED offered, its channel dirty, the beacon re-evaluated (R74). -/
def expireDeadline (t : Task) (s : State) : State :=
  evalBeacon (offer (.expired t.tag t.loc t.channel t.lane)
    (onDisp t.channel markDirty { s with pool := editTask t.tag expireTask s.pool }))

/-- The wait-blink end becomes none and the channel dirty (R92). -/
def expireBlink (c : Channel) (s : State) : State :=
  onDisp c (fun d => { markDirty d with waitBlinkEnd := none }) s

/-- Probation becomes none (R149). -/
def expireProbation (c : Channel) (s : State) : State := onBus c (fun b => { b with probation := none }) s

/-- The guard release timer ends and GUARD leaves the hold set (R161). -/
def expireGuard (s : State) : State := setHold s.head false { s with guardTimer := none }

/-! ### TIME_ADVANCE (R48, R50 to R53) -/

/-- Expiries of the present controller time that no command has taken yet are taken, in one fixed order,
before time moves on: each timer expires at the advance that reaches its end (R53, R174; log 8). -/
def flushExpiries (s : State) : State :=
  let s := (s.pool.filter s.deadlineDue).foldl (fun s t => expireDeadline t s) s
  let s := { s with pool := s.pool.filter fun t => !s.holdDue t }
  let s := (channels.filter fun c => reached s.time s.disp[c].waitBlinkEnd).foldl (fun s c => expireBlink c s) s
  let s := (channels.filter fun c => reached s.time s.bus[c].probation).foldl (fun s c => expireProbation c s) s
  let s := if s.testDue then endTestByExpiry s else s
  if reached s.time s.guardTimer then expireGuard s else s

/-- A count lowered by an advance. The last unit of a count is lowered by its expiry, which does all that
R51 and R52 let happen at that advance (log 23). -/
def lowered (n : Nat) : Nat := if n ≤ 1 then n else n - 1

/-- One advance on a record: a remaining time is lowered while the four conditions of R51 hold; a done hold
is lowered always (R51, R52). -/
def tickTask (s : State) (t : Task) : Task :=
  { t with
    remaining := if s.countsDown t then t.remaining.map lowered else t.remaining
    doneHold := if t.state = .done then t.doneHold.map lowered else t.doneHold }

/-- The records whose count the coming advance takes to 0 (R51, R52; log 23). -/
def lapsingNext (s : State) : List Tag :=
  (s.pool.filter fun t => s.deadlineAtLast t || t.holdAtLast).map (·.tag)

/-- One advance to time t on a display record: a settle end that is reached has passed (R50). -/
def tickDisp (t : Time) (d : DisplayRec) : DisplayRec :=
  { d with settlePassed := d.settlePassed || !before t d.settleEnd }

/-- Controller time moves on by one unit (R48). -/
def tick (s : State) : State :=
  { s with
    time := s.time + 1
    pool := s.pool.map (tickTask s)
    disp := mapTab s.disp fun _ d => tickDisp (s.time + 1) d
    lapsing := lapsingNext s }

/-- TIME_ADVANCE. -/
def execTimeAdvance (s : State) : Result := .next (tick (flushExpiries s))

/-! ### The expiry commands -/

/-- DEADLINE_EXPIRY of the channel's SHOWING task (R74). -/
def execDeadlineExpiry (c : Channel) (s : State) : Result :=
  match showingOf s c with
  | some t => if s.deadlineDue t then .next (expireDeadline t s) else .fault .notDue
  | none => .fault .notDue

/-- DONE_HOLD_EXPIRY: the record is freed without a report (R77). -/
def execDoneHoldExpiry (tag : Tag) (s : State) : Result :=
  match findTag s.pool tag with
  | some t => if s.holdDue t then .next (freeDone tag s) else .fault .notDue
  | none => .fault .notDue

/-- WAIT_BLINK_EXPIRY (R92). -/
def execWaitBlinkExpiry (c : Channel) (s : State) : Result :=
  if reached s.time s.disp[c].waitBlinkEnd then .next (expireBlink c s) else .fault .notDue

/-- PROBATION_EXPIRY (R149). -/
def execProbationExpiry (c : Channel) (s : State) : Result :=
  if reached s.time s.bus[c].probation then .next (expireProbation c s) else .fault .notDue

/-- LAMP_TEST_EXPIRY (R167). -/
def execLampTestExpiry (s : State) : Result :=
  if s.testDue then .next (endTestByExpiry s) else .fault .notDue

/-- GUARD_RELEASE_TIMER_EXPIRY (R161). -/
def execGuardReleaseTimerExpiry (s : State) : Result :=
  if reached s.time s.guardTimer then .next (expireGuard s) else .fault .notDue

/-! ### The GUARD line (R160, R161) -/

/-- GUARD_ASSERTION: GUARD joins the hold set and the release timer is cancelled (R160). -/
def execGuardAssertion (s : State) : Result :=
  .next (setHold s.head true { s with guardLine := true, guardTimer := none })

/-- GUARD_RELEASE: the release timer starts; a delay of 0 expires at this same event (R53, R160, R161). A
line that is not asserted has no release (log 21). -/
def execGuardRelease (s : State) : Result :=
  if s.guardLine then
    let t := { s with guardLine := false, guardTimer := some (ahead s.time s.guardUnits) }
    .next (if s.guardUnits = 0 then expireGuard t else t)
  else .next s

end Sys2Proof.Machine
end

