-- ==== Sys2Proof/Machine/Dispatch.lean ====
section
/-! DEFINITION. One arm per command: the effect of a command on everything but the queue. -/

namespace Sys2Proof.Machine

def exec (i : Instr) (s : State) : Host.Outcome State Fault Refusal :=
  match i with
  | .powerOnReset partnerHigh guardAsserted => Sys2Proof.Machine.execPowerOnReset partnerHigh guardAsserted s
  | .lineBreak partnerHigh guardAsserted => Sys2Proof.Machine.execLineBreak partnerHigh guardAsserted s
  | .breakRelayEnd => Sys2Proof.Machine.execBreakRelayEnd s
  | .terminalStatusChange partnerHigh => Sys2Proof.Machine.execTerminalStatusChange partnerHigh s
  | .frameEarlyDiscard lane cause => Sys2Proof.Machine.execFrameEarlyDiscard lane cause s
  | .discardedFrame lane kind rx => Sys2Proof.Machine.execDiscardedFrame lane kind rx s
  | .unknownKindFrame kind rx => Sys2Proof.Machine.execUnknownKindFrame kind rx s
  | .upiSpacing => Sys2Proof.Machine.execUpiSpacing s
  | .post rx => Sys2Proof.Machine.execPost rx s
  | .run rx => Sys2Proof.Machine.execRun rx s
  | .amend rx => Sys2Proof.Machine.execAmend rx s
  | .withdraw rx => Sys2Proof.Machine.execWithdraw rx s
  | .release rx => Sys2Proof.Machine.execRelease rx s
  | .enumerate rx => Sys2Proof.Machine.execEnumerate rx s
  | .setup rx => Sys2Proof.Machine.execSetup rx s
  | .lanes rx => Sys2Proof.Machine.execLanes rx s
  | .ranges rx => Sys2Proof.Machine.execRanges rx s
  | .lock rx => Sys2Proof.Machine.execLock rx s
  | .purge rx => Sys2Proof.Machine.execPurge rx s
  | .sweep rx => Sys2Proof.Machine.execSweep rx s
  | .hold rx => Sys2Proof.Machine.execHold rx s
  | .resume rx => Sys2Proof.Machine.execResume rx s
  | .revive rx => Sys2Proof.Machine.execRevive rx s
  | .test rx => Sys2Proof.Machine.execTest rx s
  | .askStatus rx => Sys2Proof.Machine.execAskStatus rx s
  | .askSlot rx => Sys2Proof.Machine.execAskSlot rx s
  | .askTask rx => Sys2Proof.Machine.execAskTask rx s
  | .upFrameAccepted kind rx => Sys2Proof.Machine.execUpFrameAccepted kind rx s
  | .downRelayStart dnoRdy => Sys2Proof.Machine.execDownRelayStart dnoRdy s
  | .downRelayComplete => Sys2Proof.Machine.execDownRelayComplete s
  | .upMergeGrant upoRdy => Sys2Proof.Machine.execUpMergeGrant upoRdy s
  | .reportFrameSent => Sys2Proof.Machine.execReportFrameSent s
  | .upRelayComplete => Sys2Proof.Machine.execUpRelayComplete s
  | .timeAdvance => Sys2Proof.Machine.execTimeAdvance s
  | .deadlineExpiry channel => Sys2Proof.Machine.execDeadlineExpiry channel s
  | .doneHoldExpiry tag => Sys2Proof.Machine.execDoneHoldExpiry tag s
  | .waitBlinkExpiry channel => Sys2Proof.Machine.execWaitBlinkExpiry channel s
  | .probationExpiry channel => Sys2Proof.Machine.execProbationExpiry channel s
  | .lampTestExpiry => Sys2Proof.Machine.execLampTestExpiry s
  | .guardAssertion => Sys2Proof.Machine.execGuardAssertion s
  | .guardRelease => Sys2Proof.Machine.execGuardRelease s
  | .guardReleaseTimerExpiry => Sys2Proof.Machine.execGuardReleaseTimerExpiry s
  | .visit => Sys2Proof.Machine.execVisit s
  | .showStart => Sys2Proof.Machine.execShowStart s
  | .pollAnswered answer => Sys2Proof.Machine.execPollAnswered answer s
  | .pollSilent => Sys2Proof.Machine.execPollSilent s
  | .showAcknowledged answer => Sys2Proof.Machine.execShowAcknowledged answer s
  | .showSilent => Sys2Proof.Machine.execShowSilent s
  | .describeAnswered answer => Sys2Proof.Machine.execDescribeAnswered answer s
  | .describeSilent => Sys2Proof.Machine.execDescribeSilent s
  | .inventoryAnswered answer => Sys2Proof.Machine.execInventoryAnswered answer s
  | .inventorySilent => Sys2Proof.Machine.execInventorySilent s

end Sys2Proof.Machine
end

