-- ==== Sys2Proof/Safety.lean ====
section
/-! DEFINITION. What holds of every state the part can be in, block by block, and the runs that keep it. -/

namespace Sys2Proof.Machine

/-- Every bounded store stays within its room (R5, R6, R16, R56, R82, R141, R144, R172). -/
structure RoomKept (s : State) : Prop where
  downBuf : s.downBuf.length ≤ 4
  upBuf : s.upBuf.length ≤ 4
  queue : s.queue.length ≤ 32
  pool : s.pool.length ≤ 128
  slots : ∀ c : Channel, s.slots[c].length ≤ 8
  misses : ∀ c : Channel, s.bus[c].misses ≤ 2
  batch : s.batchLeft ≤ 4
  counts : s.downCheck ≤ 255 ∧ s.downOverrun ≤ 255 ∧ s.upCheck ≤ 255 ∧ s.upOverrun ≤ 255

/-- The beacon state is what R168's condition and the enable give. -/
def BeaconTrue (s : State) : Prop :=
  s.beacon = true ↔ s.beaconEnable = true ∧
    ((∃ t ∈ s.pool, t.state = .showing ∧ t.expired = true) ∨
     ∃ c : Channel, s.bus[c].presence = .faulted ∨ s.bus[c].presence = .isolated)

/-- A terminal segment relays nothing down (R2, R6). -/
def TerminalQuiet (s : State) : Prop :=
  s.terminal = true → s.downBuf = [] ∧ ∀ f, s.dno ≠ .sending f

/-- What is on a line is the oldest frame or record of its source (R6, R16, R17, R18). -/
structure LinesMatch (s : State) : Prop where
  down : ∀ f, s.dno = .sending f → s.downBuf.head? = some f
  relay : ∀ f, s.upo = some { source := .relay, frame := f } → s.upBuf.head? = some f
  report : ∀ f, s.upo = some { source := .queue, frame := f } →
    ∃ r, s.queue.head? = some r ∧ f = reportFrame r

/-- The pool and the slot lists agree (R56, R58, R59, R82, R83). -/
structure ListsStand (s : State) : Prop where
  /-- no two records share a tag -/
  tags : (s.pool.map (·.tag)).Nodup
  /-- a listed tag is a waiting or showing record of that channel -/
  listed : ∀ (c : Channel), ∀ tag ∈ s.slots[c], ∃ t ∈ s.pool, t.tag = tag ∧ t.channel = c ∧ t.state ≠ .done
  /-- a waiting or showing record stands in the list of its channel -/
  stands : ∀ t ∈ s.pool, t.state ≠ .done → t.tag ∈ s.slots[t.channel]
  /-- a list holds no record twice -/
  once : ∀ c : Channel, s.slots[c].Nodup
  /-- the first entry of a list, and no other record, is SHOWING -/
  first : ∀ t ∈ s.pool, t.state ≠ .done → (t.state = .showing ↔ s.slots[t.channel].head? = some t.tag)
  /-- waiting entries stand by urgency, highest first -/
  order : ∀ c : Channel, (s.slots[c].drop 1).Pairwise fun x y =>
    ∀ t ∈ s.pool, ∀ u ∈ s.pool, t.tag = x → u.tag = y → u.urgency ≤ t.urgency

/-- Quantities and optional fields of every record (R45, R46, R47, R51, R52, R54, R55, R59). -/
structure RecordFits (t : Task) : Prop where
  adjustedAtMost : t.a ≤ t.q
  quantity : t.q ≤ 9999
  queued : t.state = .queued → t.a = t.q ∧ t.adjusted = false ∧ t.expired = false
  remaining : t.remaining.isSome = true ↔ t.deadline ≠ 0
  remainingAtMost : ∀ n, t.remaining = some n → n ≤ t.deadline * 100
  deadline : t.deadline ≤ 255
  expired : t.expired = true ↔ t.remaining = some 0
  picked : t.picked = if t.state = .done then some t.a else none
  doneHold : t.doneHold.isSome = true ↔ t.state = .done
  doneHoldRange : ∀ n, t.doneHold = some n → 1 ≤ n ∧ n ≤ 25500

/-- The parameters stand as a SETUP or a reset leaves them (R180, R181). -/
structure SetupFits (s : State) : Prop where
  settle : s.settleMs ≤ 2550 ∧ s.settleMs % 10 = 0
  doneHold : 1 ≤ s.doneHoldS ∧ s.doneHoldS ≤ 255
  probation : 10 ≤ s.probationS ∧ s.probationS ≤ 255
  guard : s.guardSteps ≤ 100

/-- A settle end that has not passed lies ahead of controller time, at most 255 units (R49, R50). -/
def SettleStands (s : State) : Prop :=
  ∀ c : Channel, s.disp[c].settlePassed = false →
    before s.time s.disp[c].settleEnd = true ∧ (s.disp[c].settleEnd - s.time).toNat ≤ 255

/-- Presence, capabilities, content, key histories, probation and the exchange in flight agree
(R86, R98, R119, R137, R140, R143, R148, R151). -/
structure BusStand (s : State) : Prop where
  absentEmpty : ∀ c : Channel, s.bus[c].presence = .absent → s.slots[c] = []
  notPresent : ∀ c : Channel, s.bus[c].presence ≠ .present →
    s.disp[c].lastSent = none ∧ s.bus[c].confirmKey = .unknown ∧ s.bus[c].adjustKey = .unknown
      ∧ s.bus[c].probation = none
  present : ∀ c : Channel, s.bus[c].presence = .present → s.bus[c].caps.isSome = true
  starting : s.ctrl = .starting → ∀ c : Channel, s.inventory ≤ c → s.bus[c].presence = .absent
  polled : ∀ c, s.exchange = some (.poll c) → s.bus[c].presence = .present ∧ s.ctrl = .running
  describing : ∀ c, s.exchange = some (.describe c) → s.bus[c].presence = .reviving ∧ s.ctrl = .running
  inventoried : ∀ c, s.exchange = some (.inventory c) → c = s.inventory ∧ s.ctrl = .starting
  shown : ∀ c k, s.exchange = some (.display c k) → s.bus[c].presence = .present

/-- The entries a load leaves: fields that fit, BLOCK geometry that fits, spans disjoint (R20, R23, R30 to R33). -/
structure RangesStand (r : Tab 16 RangeEntry) : Prop where
  fields : ∀ i : EntryNo, fieldsFit r[i] = true
  geometry : ∀ i : EntryNo, r[i].mode = .block → geometryFits r[i] = true
  disjoint : ∀ (i j : EntryNo) (c : Channel), i ≠ j → inSpan r[i] c = true → inSpan r[j] c = false

/-- A channel whose list is not empty lies in the span of some BLOCK entry, its owner (R23, R34). -/
def ListsHaveOwners (s : State) : Prop :=
  ∀ c : Channel, s.slots[c] ≠ [] → ∃ i : EntryNo, inSpan s.ranges[i] c = true

/-- GUARD is in the hold set while its line is asserted or its release timer runs (R160, R161, R171). -/
def GuardStands (s : State) : Prop :=
  (s.guard = true ↔ s.guardLine = true ∨ s.guardTimer.isSome = true) ∧
    (s.guardLine = true → s.guardTimer = none)

/-- No lamp test is active in a held aisle, and its set is of PRESENT channels (R93, R162, R164, R165). -/
structure TestStands (s : State) : Prop where
  notHeld : s.head = true ∨ s.guard = true → s.test = none
  present : ∀ x, s.test = some x → ∀ c ∈ x.set, s.bus[c].presence = .present

/-- What the claims call a sound state of the LS640. -/
structure Sound (s : State) : Prop where
  room : RoomKept s
  beacon : BeaconTrue s
  quiet : TerminalQuiet s
  lines : LinesMatch s
  lists : ListsStand s
  records : ∀ t ∈ s.pool, RecordFits t
  bus : BusStand s
  ranges : RangesStand s.ranges
  owners : ListsHaveOwners s
  guard : GuardStands s
  test : TestStands s
  setup : SetupFits s
  settle : SettleStands s

/-- A safe run of k steps: it stops at no fault and no refusal. -/
def SafeRun : Nat → State → Prop
  | 0, _ => True
  | k + 1, s => ∃ t, step s = .next t ∧ SafeRun k t

end Sys2Proof.Machine
end

