-- ==== Sys2Proof/WellFormed.lean ====
section
/-! DEFINITION. Which commands are well formed: the operand is what the row's name says of it. A meaning
is defined on the others too: it deals with their bytes as R4 and R137 say. -/

namespace Sys2Proof

open Sys2Proof.Machine

/-- A frame that passes the first two lines of R4's table for its kind. -/
def wfFrame (k : Kind) (rx : RxFrame) : Bool := checkDown (frameOf (kindCode k) rx) == .good

/-- A complete answer: kind bits of its address byte, number of bytes, check byte (R137, R192). -/
def wfAnswer (code : Byte) (n : Nat) (ans : List Byte) : Bool :=
  ans.length == n + 2 && byteAt ans 0 >>> 6 == code && byteAt ans (n + 1) == crc8 (ans.take (n + 1))

/-- The fields of a DESCRIBE answer are in range (R138, R192). -/
def wfDescribe (ans : List Byte) : Bool :=
  wfAnswer 2 4 ans && 2 ≤ (byteAt ans 1).toNat && (byteAt ans 1).toNat ≤ 4
    && (byteAt ans 2).toNat ≤ 1 && (byteAt ans 3).toNat ≤ 1

/-- Well-formed commands. -/
def wf : Instr → Bool
  | .powerOnReset _ _ => true
  | .lineBreak _ _ => true
  | .breakRelayEnd => true
  | .terminalStatusChange _ => true
  | .frameEarlyDiscard _ _ => true
  | .discardedFrame _ _ rx => rx.payload.length ≤ Config.maxPayload
  | .unknownKindFrame k rx => (kindOf k).isNone && checkDown (frameOf k rx) == .good
  | .upiSpacing => true
  | .post rx => wfFrame .post rx
  | .run rx => wfFrame .run rx
  | .amend rx => wfFrame .amend rx
  | .withdraw rx => wfFrame .withdraw rx
  | .release rx => wfFrame .release rx
  | .enumerate rx => wfFrame .enumerate rx
  | .setup rx => wfFrame .setup rx
  | .lanes rx => wfFrame .lanes rx
  | .ranges rx => wfFrame .ranges rx
  | .lock rx => wfFrame .lock rx
  | .purge rx => wfFrame .purge rx
  | .sweep rx => wfFrame .sweep rx
  | .hold rx => wfFrame .hold rx
  | .resume rx => wfFrame .resume rx
  | .revive rx => wfFrame .revive rx
  | .test rx => wfFrame .test rx
  | .askStatus rx => wfFrame .askStatus rx
  | .askSlot rx => wfFrame .askSlot rx
  | .askTask rx => wfFrame .askTask rx
  | .upFrameAccepted k rx => checkUp (frameOf k rx) == .good
  | .downRelayStart _ => true
  | .downRelayComplete => true
  | .upMergeGrant _ => true
  | .reportFrameSent => true
  | .upRelayComplete => true
  | .timeAdvance => true
  | .deadlineExpiry _ => true
  | .doneHoldExpiry _ => true
  | .waitBlinkExpiry _ => true
  | .probationExpiry _ => true
  | .lampTestExpiry => true
  | .guardAssertion => true
  | .guardRelease => true
  | .guardReleaseTimerExpiry => true
  | .visit => true
  | .showStart => true
  | .pollAnswered a => wfAnswer 0 1 a
  | .pollSilent => true
  | .showAcknowledged a => wfAnswer 1 0 a
  | .showSilent => true
  | .describeAnswered a => wfDescribe a
  | .describeSilent => true
  | .inventoryAnswered a => wfDescribe a
  | .inventorySilent => true

end Sys2Proof
end

