-- ==== Sys2Proof/Certificates/Slice0/Obligations.lean ====
section
/-! DEFINITION. The statements for the provers, and the words they are written in. A statement about a
next state t gives t as the old state with the named fields taken from t, which says that every other
field is unchanged, and then says what those fields hold. -/

namespace Sys2Proof.Machine

/-! ### The words of the statements -/

/-- The command that hands the part a completed frame of a kind. -/
def frameCommand : Kind → RxFrame → Instr
  | .post => .post | .run => .run | .amend => .amend | .withdraw => .withdraw | .release => .release
  | .enumerate => .enumerate | .setup => .setup | .lanes => .lanes | .ranges => .ranges | .lock => .lock
  | .purge => .purge | .sweep => .sweep | .hold => .hold | .resume => .resume | .revive => .revive
  | .test => .test | .askStatus => .askStatus | .askSlot => .askSlot | .askTask => .askTask

/-- The task kinds (R4). -/
def isTaskKind : Kind → Bool
  | .post | .run | .amend | .withdraw | .release => true
  | _ => false

/-- The management kinds other than ENUMERATE (R13). -/
def isManagementKind (k : Kind) : Bool := !isTaskKind k && k != .enumerate

/-- The received frame of a kind. -/
def received (k : Kind) (rx : RxFrame) : Frame := frameOf (kindCode k) rx

/-- The frame has its check word over kind, length, flags, segment and payload, a payload of at most 88
bytes and a size of its kind (R3, R4, R186, R187). -/
def GoodFrame (k : Kind) (rx : RxFrame) : Prop :=
  rx.payload.length ≤ 88 ∧ sizeAgrees k rx.payload.length = true ∧
    rx.check = crc16 (kindCode k :: BitVec.ofNat 8 rx.payload.length :: rx.flags :: rx.segment :: rx.payload)

/-- The frame is accepted on DNI: it is good and the down relay buffer has room (R4). -/
def Accepted (k : Kind) (rx : RxFrame) (s : State) : Prop := GoodFrame k rx ∧ s.downBuf.length < 4

/-- A management frame is addressed to this segment or broadcast (R13). -/
def Addressed (rx : RxFrame) (s : State) : Prop :=
  rx.segment = 255 ∨ rx.segment = s.segNum ∧ 1 ≤ rx.segment.toNat ∧ rx.segment.toNat ≤ 250

/-- An accepted management frame that its owning block acts on: addressed, answer room, RUNNING (R13, R179). -/
def ActedOn (k : Kind) (rx : RxFrame) (s : State) : Prop :=
  Accepted k rx s ∧ Addressed rx s ∧ s.queue.length < 32 ∧ s.ctrl = .running

/-- A report record of this event: the segment number and controller time modulo 65536 (R173). -/
def reportOf (s : State) (b : ReportBody) : Report :=
  { segment := s.segNum, stamp := BitVec.ofNat 16 s.time.toNat, body := b }

/-- The relay copy of a frame enters the down relay buffer, or is dropped at the terminal (R6). -/
def Relays (f : Frame) (s t : State) : Prop :=
  t.downBuf = if s.terminal = true then s.downBuf else s.downBuf ++ [f]

/-- One ANSWER of a management frame, and the frame consumed or, if broadcast, relayed (R10, R13). -/
def Answers (k : Kind) (rx : RxFrame) (r : Reason) (failing : Option Byte) (b : AnswerBody) (s t : State) :
    Prop :=
  t.queue = s.queue ++ [reportOf s (.answer k r failing b)] ∧
    (rx.segment = 255 → Relays (received k rx) s t) ∧ (rx.segment ≠ 255 → t.downBuf = s.downBuf)

/-- A record of a tier that needs the given free places is offered: taken in, or dropped with the
advisory-withheld mark set (R174, R175). -/
def Offers (places : Nat) (b : ReportBody) (s t : State) : Prop :=
  if s.queue.length + places ≤ 32 then t.queue = s.queue ++ [reportOf s b] ∧ t.withheld = s.withheld
  else t.queue = s.queue ∧ t.withheld = true

/-- An accepted task frame that this segment claims: RUNNING, a BLOCK entry governs its location, its
claim mark is clear (R11). -/
def Claimed (k : Kind) (rx : RxFrame) (i : EntryNo) (c : Channel) (s : State) : Prop :=
  Accepted k rx s ∧ s.ctrl = .running ∧ matchLocation s.ranges (locationAt rx.payload 2) = .block i c ∧
    rx.flags.getLsbD 0 = false

/-- A claimed frame is relayed with its claim mark set and its check word recomputed (R7, R11). -/
def RelaysMarked (k : Kind) (rx : RxFrame) (s t : State) : Prop :=
  Relays (rechecked { received k rx with flags := rx.flags ||| 1 }) s t

/-- Nothing freezes the segment: the hold set is empty and no lamp test is active (R51, R121, R128). -/
def Free (s : State) : Prop := s.head = false ∧ s.guard = false ∧ s.test = none

/-- The four conditions of R51 hold of a task: its remaining time is lowered by an advance. -/
def Counts (s : State) (x : Task) : Prop :=
  x.state = .showing ∧ Free s ∧ s.bus[x.channel].presence = .present

/-- The advance to the present controller time takes the remaining time of a task to 0, or the done hold of
a record to 0: the count stands at its last unit and its tag is among the lapsing ones (log 23). -/
def Lapses (s : State) (x : Task) : Prop :=
  x.tag ∈ s.lapsing ∧ (x.state = .showing ∧ x.remaining = some 1 ∨ x.state = .done ∧ x.doneHold = some 1)

/-- A count after an advance that lowers it; its last unit is the expiry's to take (log 23). -/
def loweredTo (n : Nat) : Nat := if 2 ≤ n then n - 1 else n

/-- No expiry is due at the present controller time. -/
def NothingDue (s : State) : Prop :=
  (∀ x ∈ s.pool, ¬ Lapses s x) ∧
  (∀ c : Channel, ∀ e, s.disp[c].waitBlinkEnd = some e → before s.time e = true) ∧
  (∀ c : Channel, ∀ e, s.bus[c].probation = some e → before s.time e = true) ∧
  (∀ x, s.test = some x → before s.time x.endTime = true) ∧
  (∀ e, s.guardTimer = some e → before s.time e = true)

/-- The state both resets leave, but for controller time, controller state and what the shelf bus keeps
(R19, R21, R81, R101, R171, R178, R181). -/
def ResetValues (partnerHigh guardAsserted : Bool) (t : State) : Prop :=
  (t.downBuf = [] ∧ t.upBuf = [] ∧ t.upo = none ∧ t.lastSource = .relay ∧ t.segNum = 0 ∧
    t.terminal = partnerHigh ∧ t.downCheck = 0 ∧ t.downOverrun = 0 ∧ t.upCheck = 0 ∧ t.upOverrun = 0) ∧
  (∀ i : EntryNo, t.ranges[i].mode = .off ∧ t.ranges[i].bayLo = 0 ∧ t.ranges[i].bayHi = 0 ∧
    t.ranges[i].levLo = 0 ∧ t.ranges[i].levHi = 0 ∧ t.ranges[i].posLo = 0 ∧ t.ranges[i].posHi = 0 ∧
    t.ranges[i].base = 0 ∧ t.ranges[i].order = .normal ∧ t.ranges[i].permPost = false ∧
    t.ranges[i].permRun = false ∧ t.ranges[i].permTest = false ∧ t.ranges[i].locked = false) ∧
  (t.pool = [] ∧ (∀ c : Channel, t.slots[c] = []) ∧
    ∀ n : LaneNo, t.lanes[n] =
      { enabled := false,
        colour := ([.red, .green, .blue, .yellow, .cyan, .magenta, .white, .white] : List Colour).getD n.val .white,
        cadence := if n.val = 7 then .slow else .steady }) ∧
  (∀ c : Channel, t.disp[c] =
    { settleEnd := t.time, settlePassed := true, waitBlinkEnd := none, lastSent := none, dirty := true }) ∧
  (t.cursor = 0 ∧ t.exchange = none ∧ t.request = [] ∧ t.queue = [] ∧ t.withheld = false) ∧
  (t.head = false ∧ t.guard = guardAsserted ∧ t.guardLine = guardAsserted ∧ t.guardTimer = none ∧ t.test = none ∧
    t.beaconEnable = false ∧ t.beacon = false ∧ t.lapsing = []) ∧
  (t.settleMs = 300 ∧ t.doneHoldS = 60 ∧ t.probationS = 60 ∧ t.guardSteps = 20)

/-- The count a lane's check error raises, holding at 255 (R5). -/
def checkErrorCounted (lane : StringLane) (s : State) : State :=
  match lane with
  | .down => { s with downCheck := min (s.downCheck + 1) 255 }
  | .up => { s with upCheck := min (s.upCheck + 1) 255 }

/-- The count a lane's overrun raises, holding at 255 (R5). -/
def overrunCounted (lane : StringLane) (s : State) : State :=
  match lane with
  | .down => { s with downOverrun := min (s.downOverrun + 1) 255 }
  | .up => { s with upOverrun := min (s.upOverrun + 1) 255 }

/-- The relay buffer of a lane is full. -/
def bufferFull (lane : StringLane) (s : State) : Prop :=
  match lane with
  | .down => 4 ≤ s.downBuf.length
  | .up => 4 ≤ s.upBuf.length

/-- The sizes of an ANSWER: 6, or 6 and the body of the frame kind named in its byte 3 (R191). -/
def AnswerSizeFits (p : List Byte) : Prop :=
  p.length = 6 ∨
  (kindOf (byteAt p 3) = some .purge ∨ kindOf (byteAt p 3) = some .sweep) ∧ p.length = 6 + 1 ∨
  kindOf (byteAt p 3) = some .test ∧ p.length = 6 + 2 ∨
  kindOf (byteAt p 3) = some .setup ∧ p.length = 6 + 6 ∨
  kindOf (byteAt p 3) = some .askStatus ∧ p.length = 6 + 21 ∨
  kindOf (byteAt p 3) = some .askSlot ∧ (∃ tags ≤ 8, p.length = 6 + 10 + 2 * tags) ∨
  kindOf (byteAt p 3) = some .askTask ∧ p.length = 6 + 25

/-- The code and the size of a report payload stand in the table of R191. -/
def ReportSizeFits (p : List Byte) : Prop :=
  p ≠ [] ∧
  ((byteAt p 0 = 0x01 ∧ AnswerSizeFits p) ∨
   (byteAt p 0, p.length) ∈ ([(0x02, 4), (0x10, 15), (0x11, 11), (0x12, 10), (0x13, 14), (0x20, 4),
      (0x20, 11), (0x21, 10), (0x22, 5), (0x22, 7), (0x23, 4), (0x23, 6), (0x24, 8), (0x25, 9)] :
      List (Byte × Nat)))

/-- A completed frame passes the first two lines of R4's table on its lane: at most 88 payload bytes, the
check word over kind, length, flags, segment and payload, and a size of its kind where the lane knows the
kind (R187 on the down lane, the report frame's R191 on the up lane). -/
def passesChecks (lane : StringLane) (f : Frame) : Prop :=
  f.payload.length ≤ 88 ∧
  f.check = crc16 (f.kind :: BitVec.ofNat 8 f.payload.length :: f.flags :: f.segment :: f.payload) ∧
  match lane with
  | .down => ∀ k, kindOf f.kind = some k → sizeAgrees k f.payload.length = true
  | .up => f.kind = 0x60 → ReportSizeFits f.payload

/-- A frame of a source is granted UPO, and that source becomes the source sent last (R17). -/
def granted (src : Source) (f : Frame) (s : State) : State :=
  { s with upoRdy := true, upo := some { source := src, frame := f }, lastSource := src }

/-- The command makes a power-on reset: the RESET pin, or a break while STARTING (R9). -/
def PowersOn (p g : Bool) (c : Instr) (s : State) : Prop :=
  c = .powerOnReset p g ∨ c = .lineBreak p g ∧ s.ctrl = .starting ∧ s.breakWait = false

/-- A frame's shape agrees with what its kind carries, for the answer bodies (R191). -/
def bodyFits : ReportBody → Prop
  | .answer k _ _ b =>
    match b with
    | .none => True
    | .count _ => k = .purge ∨ k = .sweep
    | .lampTest _ _ => k = .test
    | .setup _ => k = .setup
    | .status _ => k = .askStatus
    | .slot v => k = .askSlot ∧ v.tags.length ≤ 8
    | .task _ => k = .askTask
  | _ => True

/-- The settle window of one channel is started at the time and with S as the state has them (R50). -/
def settledNow (s : State) (d : DisplayRec) : DisplayRec := startSettle s.time (s.settleMs / 10) d

/-- The display record after a head change that leaves a task showing (R60, R94, R99). -/
def headChanged (s : State) (d : DisplayRec) : DisplayRec := headChange s.time (s.settleMs / 10) false d

/-- The display record after a head change that leaves the list empty (R60, R100). -/
def wentDark (s : State) (d : DisplayRec) : DisplayRec := headChange s.time (s.settleMs / 10) true d

/-- A listed task that a SWEEP, PURGE or WITHDRAW frees, by tag. -/
def Frees (p : Task → Prop) (s : State) (tag : Tag) : Prop :=
  ∃ t ∈ s.pool, t.tag = tag ∧ t.state ≠ .done ∧ p t

/-- Every QUEUED and SHOWING task that p holds of is gone, the lists keep their order, the new first
entries are SHOWING, and a channel whose first entry changed has its head change (R57, R60, R79). -/
def FreesListed (p : Task → Prop) (s t : State) : Prop :=
  (∀ x, x ∈ t.pool ↔
    ∃ y ∈ s.pool, ¬ (y.state ≠ .done ∧ p y) ∧
      x = if y.state = .queued ∧ t.slots[y.channel].head? = some y.tag then { y with state := .showing } else y) ∧
  (∀ c : Channel, t.slots[c].Sublist s.slots[c] ∧
    ∀ tag, tag ∈ t.slots[c] ↔ tag ∈ s.slots[c] ∧ ¬ Frees p s tag) ∧
  (∀ c : Channel,
    (t.slots[c].head? = s.slots[c].head? → t.disp[c] = s.disp[c]) ∧
    (t.slots[c].head? ≠ s.slots[c].head? → t.slots[c] ≠ [] → t.disp[c] = headChanged s s.disp[c]) ∧
    (t.slots[c].head? ≠ s.slots[c].head? → t.slots[c] = [] → t.disp[c] = wentDark s s.disp[c]))

/-- The record a POST or a run step makes, before it is known to stand first (R55, R110). -/
def freshRecord (tag : Tag) (loc : Location) (c : Channel) (lane : LaneNo) (urgency q deadline : Nat)
    (origin : Option RunOrigin) (state : TaskState) : Task :=
  { tag := tag, loc := loc, channel := c, lane := lane, urgency := urgency, q := q, a := q, adjusted := false,
    deadline := deadline, remaining := if 0 < deadline then some (deadline * 100) else none, expired := false,
    state := state, picked := none, doneHold := none, origin := origin }

/-- The slot list of the channel a location maps to through entry i. -/
def listAt (i : EntryNo) (s : State) (l : Location) : List Tag := s.slots[mapChannel s.ranges[i] l]

/-- Steps 1 and 2 of R106 do not skip the location: entry i governs it, and its channel is neither ABSENT
nor ISOLATED (R107). -/
def Reached (i : EntryNo) (s : State) (l : Location) : Prop :=
  governing s.ranges l = some i ∧ s.bus[mapChannel s.ranges[i] l].presence ≠ .absent ∧
    s.bus[mapChannel s.ranges[i] l].presence ≠ .isolated

/-- The location is skipped: not reached, or occupied under SKIP_IF_OCCUPIED (R107, R108). -/
def Skipped (v : RunOp) (i : EntryNo) (s : State) (l : Location) : Prop :=
  ¬ Reached i s l ∨ v.termination = .skipIfOccupied ∧ listAt i s l ≠ []

/-- Step 4 of R106 is come to: reached, and not decided by the termination mode (R108). -/
def Considered (v : RunOp) (i : EntryNo) (s : State) (l : Location) : Prop :=
  Reached i s l ∧ (v.termination = .none ∨ listAt i s l = [])

/-- The (k+1)-th task's tag is live (R109). A run's own tags are distinct, so only older records count. -/
def CandidateLive (v : RunOp) (s : State) (k : Nat) : Prop := ∃ x ∈ s.pool, x.tag = v.base + BitVec.ofNat 16 k

/-- No line of R109 stops the run at a considered location, with k tasks posted so far. -/
def Posts (v : RunOp) (i : EntryNo) (s : State) (k : Nat) (l : Location) : Prop :=
  Considered v i s l ∧ (listAt i s l).length < 8 ∧ s.pool.length + k < 128 ∧ ¬ CandidateLive v s k

/-- The task posted at a location as the (k+1)-th (R110). -/
def runTask (v : RunOp) (i : EntryNo) (s : State) (k : Nat) (l : Location) : Task :=
  freshRecord (v.base + BitVec.ofNat 16 k) l (mapChannel s.ranges[i] l) v.lane v.urgency
    (if v.quantities.length = v.count then v.quantities.getD k 0 else v.quantities.getD 0 0) v.deadline
    (some { base := v.base, step := k }) (if listAt i s l = [] then .showing else .queued)

/-- The walk of a run over the state s before it, from a location on, with k tasks posted so far: the tasks
it posts from there, its stop reason and the last location it examines (R106 to R111). -/
inductive Walks (v : RunOp) (i : EntryNo) (s : State) :
    Nat → Location → List Task → StopReason → Location → Prop where
  | skips {k l l' posted stop last} : Skipped v i s l →
      nextLocation v.direction s.ranges[i] l = some l' → Walks v i s k l' posted stop last →
      Walks v i s k l posted stop last
  | skipsTheEnd {k l} : Skipped v i s l → nextLocation v.direction s.ranges[i] l = none →
      Walks v i s k l [] .rangeEnd l
  | occupied {k l} : Reached i s l → v.termination = .stopIfOccupied → listAt i s l ≠ [] →
      Walks v i s k l [] .occupied l
  | listFull {k l} : Considered v i s l → 8 ≤ (listAt i s l).length → Walks v i s k l [] .listFull l
  | poolFull {k l} : Considered v i s l → (listAt i s l).length < 8 → 128 ≤ s.pool.length + k →
      Walks v i s k l [] .poolFull l
  | tagInUse {k l} : Considered v i s l → (listAt i s l).length < 8 → s.pool.length + k < 128 →
      CandidateLive v s k → Walks v i s k l [] .tagInUse l
  | completes {k l} : Posts v i s k l → k + 1 = v.count → Walks v i s k l [runTask v i s k l] .complete l
  | posts {k l l' posted stop last} : Posts v i s k l → k + 1 < v.count →
      nextLocation v.direction s.ranges[i] l = some l' → Walks v i s (k + 1) l' posted stop last →
      Walks v i s k l (runTask v i s k l :: posted) stop last
  | postsAtTheEnd {k l} : Posts v i s k l → k + 1 < v.count →
      nextLocation v.direction s.ranges[i] l = none → Walks v i s k l [runTask v i s k l] .rangeEnd l

/-- The condition of the beacon: some expired SHOWING task, or some channel FAULTED or ISOLATED (R168). -/
def AttentionNeeded (s : State) : Prop :=
  (∃ x ∈ s.pool, x.state = .showing ∧ x.expired = true) ∨
    ∃ c : Channel, s.bus[c].presence = .faulted ∨ s.bus[c].presence = .isolated

/-- A management frame is answered and, but for its answer and its relay, changes nothing. -/
def AnsweredOnly (k : Kind) (rx : RxFrame) (r : Reason) (failing : Option Byte) (b : AnswerBody) (s : State) :
    Prop :=
  ∃ t, exec (frameCommand k rx) s = .next t ∧ t = { s with queue := t.queue, downBuf := t.downBuf } ∧
    Answers k rx r failing b s t

/-- k is the first of the n places at which a check fails. -/
def FirstFailing (n : Nat) (fails : Nat → Prop) (k : Nat) : Prop := k < n ∧ fails k ∧ ∀ j < k, ¬ fails j

/-- A carried range entry holds values the part can hold and, if BLOCK, a geometry that fits (R30, R32). -/
def EntryFits (o : EntryOp) : Prop :=
  o.mode.isSome = true ∧ o.order.isSome = true ∧
  o.bayLo ≤ 4095 ∧ o.bayHi ≤ 4095 ∧ o.levLo ≤ 31 ∧ o.levHi ≤ 31 ∧ o.posLo ≤ 127 ∧ o.posHi ≤ 127 ∧ o.base ≤ 63 ∧
  (o.mode = some .block → o.bayLo ≤ o.bayHi ∧ o.levLo ≤ o.levHi ∧ o.posLo ≤ o.posHi ∧
    o.base + (o.bayHi + 1 - o.bayLo) * (o.levHi + 1 - o.levLo) * (o.posHi + 1 - o.posLo) ≤ 64)

/-- Two entries agree in mode, bounds, base channel and position order (R34). -/
def SameGeometry (e f : RangeEntry) : Prop :=
  e.mode = f.mode ∧ e.bayLo = f.bayLo ∧ e.bayHi = f.bayHi ∧ e.levLo = f.levLo ∧ e.levHi = f.levHi ∧
  e.posLo = f.posLo ∧ e.posHi = f.posHi ∧ e.base = f.base ∧ e.order = f.order

/-- A hold beginning: every PRESENT channel and every channel of the test set dirty (R162, R167). -/
def HoldBegan (s t : State) : Prop :=
  ∀ c : Channel, t.disp[c] =
    if s.bus[c].presence = .present ∨ s.inTest c = true then { s.disp[c] with dirty := true } else s.disp[c]

/-- A hold ending: every PRESENT channel dirty and given a settle window (R163). -/
def HoldEnded (s t : State) : Prop :=
  ∀ c : Channel, t.disp[c] =
    if s.bus[c].presence = .present then settledNow s { s.disp[c] with dirty := true } else s.disp[c]

/-- A table is changed at one place only. -/
def OnlyAt {α : Type} (c : Channel) (new : α) (old u : Tab 64 α) : Prop :=
  u[c] = new ∧ ∀ d : Channel, d ≠ c → u[d] = old[d]

/-- The locks permit the channel to be tested (R37). -/
def LocksPermit (s : State) (c : Channel) : Prop :=
  ∀ i : EntryNo, s.ranges[i].locked = true → inSpan s.ranges[i] c = true → s.ranges[i].permTest = true

/-- An answer of n inner bytes with the address byte of its request and a check byte that agrees (R137, R192). -/
def GoodAnswer (code n : Nat) (c : Channel) (a : List Byte) : Prop :=
  a.length = n + 2 ∧ byteAt a 0 = BitVec.ofNat 8 (64 * code + c.val) ∧
    byteAt a (n + 1) = crc8 (a.take (n + 1))

/-- The fields of a DESCRIBE answer are in range (R138, R192). -/
def DescribeInRange (a : List Byte) : Prop :=
  2 ≤ (byteAt a 1).toNat ∧ (byteAt a 1).toNat ≤ 4 ∧ (byteAt a 2).toNat ≤ 1 ∧ (byteAt a 3).toNat ≤ 1

/-- The capabilities a DESCRIBE answer carries (R138, R139). -/
def capsIn (a : List Byte) : Caps :=
  { digits := (byteAt a 1).toNat, colourCap := if byteAt a 2 = 1 then .full else .single,
    adjustKey := decide (byteAt a 3 = 1), kindCode := byteAt a 4 }

/-- The bus after a visit exchange has ended: a batch of up to 4 SHOWs follows (R137, R141). -/
def visitEnded (s : State) : State := { s with exchange := none, request := [], batchLeft := 4 }

/-- The bus after a SHOW exchange has ended. -/
def showEnded (s : State) : State := { s with exchange := none, request := [] }

/-- The content a SHOW carries, by the first line of R89 that holds (R45, R89, R90). -/
def ContentIs (s : State) (c : Channel) (digits : Nat) (x : Content) : Prop :=
  (∀ z, s.test = some z → c ∈ z.set → x = { lamp := some { colour := z.colour, cadence := .steady }, digits := .all }) ∧
  (s.inTest c = false → s.head = true ∨ s.guard = true → x = { lamp := none, digits := .bars }) ∧
  (s.inTest c = false → s.head = false → s.guard = false → s.slots[c] = [] → x = { lamp := none, digits := .blank }) ∧
  (s.inTest c = false → s.head = false → s.guard = false → ∀ y ∈ s.pool, s.slots[c].head? = some y.tag →
    x.lamp = some { colour := s.lanes[y.lane].colour,
                    cadence := if s.disp[c].blinkRuns s.time = true ∨ y.expired = true then .fast
                               else s.lanes[y.lane].cadence } ∧
    x.digits = if y.q = 0 then .dashes else .number (min y.a (10 ^ digits - 1)) (decide (10 ^ digits - 1 < y.a)))

/-- A channel is lost at its third miss (R144, R145, R146, R165, R168). -/
def ChannelLost (c : Channel) (isolated : Bool) (s t : State) : Prop :=
  OnlyAt c { s.bus[c] with
    presence := if isolated = true then .isolated else .faulted, misses := 0,
    confirmKey := ⟨none, none, none⟩, adjustKey := ⟨none, none, none⟩, probation := none } s.bus t.bus ∧
  t.test = s.test.map (fun x => { x with set := x.set.filter (fun d => decide (d ≠ c)) }) ∧
  BeaconTrue t ∧ Offers 9 (.moduleFault c isolated s.slots[c].head?) s t

/-- A key history after one more reading of its key (R118). -/
def ReadInto (k : KeyLevel) (h h' : KeyHistory) : Prop :=
  h'.earlier = h.latest ∧ h'.latest = some k ∧
    h'.settled = if h.latest = some k then some k else h.settled

/-- The level of a key in a POLL answer: bit 0 confirm, bit 1 adjust (R192). -/
def levelIn (a : List Byte) (bit : Nat) : KeyLevel := if (byteAt a 1).getLsbD bit = true then .down else .up

/-- A reading makes a press of the confirm key: the settled level goes from UP to DOWN (R118). -/
def ConfirmPressed (c : Channel) (a : List Byte) (s : State) : Prop :=
  levelIn a 0 = .down ∧ s.bus[c].confirmKey.latest = some .down ∧ s.bus[c].confirmKey.settled = some .up

/-- A reading makes a press of the adjust key, on a module that has one (R117, R118). -/
def AdjustPressed (c : Channel) (a : List Byte) (s : State) : Prop :=
  (∃ k, s.bus[c].caps = some k ∧ k.adjustKey = true) ∧
  levelIn a 1 = .down ∧ s.bus[c].adjustKey.latest = some .down ∧ s.bus[c].adjustKey.settled = some .up

/-- A POLL of a channel is answered with a good check (R117, R137). -/
def Polled (c : Channel) (a : List Byte) (s : State) : Prop :=
  s.exchange = some (.poll c) ∧ GoodAnswer 0 1 c a

/-- The inventory moves to the next channel, or ends with channel 63: RUNNING, poll cursor 0 (R151, R152).
The inventory field after the end is the model's (log 10). -/
def inventoryAfter (c : Channel) (s : State) : State :=
  if c.val = 63 then { s with ctrl := .running, cursor := 0, inventory := 0 } else { s with inventory := c + 1 }

end Sys2Proof.Machine

open Sys2Proof Sys2Proof.Machine

/-! ### The machine as a whole -/

/-- The command at the front of the queue runs on the state with the rest of the queue; an empty queue
idles (the row's cut; log 11). -/
def Obligations.StepRunsTheFrontCommand : Prop :=
  (∀ (c : Instr) (rest : List Instr) (s : State),
    step { s with pending := c :: rest } = exec c { s with pending := rest }) ∧
  ∀ s : State, s.pending = [] → step s = .next s

/-- No command touches the queue of waiting commands (the row's cut; log 12). Controller time moves by one
at TIME_ADVANCE, returns to 0 at a power-on reset and stands still otherwise, a string reset included (R48). -/
def Obligations.QueueStandsAndTimeMovesByAdvance : Prop :=
  ∀ (c : Instr) (s t : State), exec c s = .next t →
    t.pending = s.pending ∧
    ((c = .timeAdvance ∧ t.time = s.time + 1) ∨
     ((∃ p g, PowersOn p g c s) ∧ t.time = 0) ∨
     (c ≠ .timeAdvance ∧ (¬ ∃ p g, PowersOn p g c s) ∧ t.time = s.time))

/-- R126: a task becomes DONE only through a confirm press on its channel, made by an answered POLL of that
channel and taken while it was SHOWING, at or after the settle end, with the aisle free, no lamp test and 2
free places; exactly one CONFIRMED of it is taken in. -/
def Obligations.DoneOnlyByTakenConfirmPress : Prop :=
  ∀ (c : Instr) (s t : State), ListsStand s → exec c s = .next t →
    ∀ x ∈ s.pool, x.state ≠ .done → ∀ y ∈ t.pool, y.tag = x.tag → y.state = .done →
      x.state = .showing ∧ s.slots[x.channel].head? = some x.tag ∧
      (∃ a, c = .pollAnswered a ∧ Polled x.channel a s ∧ ConfirmPressed x.channel a s) ∧
      Free s ∧ s.disp[x.channel].settleOpen s.time = false ∧
      s.queue.length + 2 ≤ 32 ∧
      t.queue = s.queue ++
        [reportOf s (.confirmed x.tag x.loc x.channel x.lane x.q y.a (decide (y.a < x.q)))] ∧
      y.picked = some y.a

/-- R174: whatever a command adds to the report queue had the free places its tier needs, and a queue
that loses records loses its oldest one or, at a reset, all. -/
def Obligations.AdmissionKeepsTheTiers : Prop :=
  ∀ (c : Instr) (s t : State), exec c s = .next t →
    (∃ added : List Report, t.queue = s.queue ++ added ∧
      ∀ (n : Nat) (r : Report), added[n]? = some r →
        s.queue.length + n + (match r.body with
          | .answer .. | .enumEnd .. => 1
          | .confirmed .. | .refused .. | .runDone .. | .lateWithdraw .. => 2
          | _ => 9) ≤ 32) ∨
    (c = .reportFrameSent ∧ t.queue = s.queue.drop 1) ∨
    ((∃ p g, c = .powerOnReset p g ∨ c = .lineBreak p g) ∧ t.queue = [])

/-- R36: a locked entry keeps its contents and its lock until the next reset. -/
def Obligations.LockedEntriesStandUntilReset : Prop :=
  ∀ (c : Instr) (s t : State) (i : EntryNo), exec c s = .next t → s.ranges[i].locked = true →
    t.ranges[i] = s.ranges[i] ∨ ∃ p g, c = .powerOnReset p g ∨ c = .lineBreak p g

/-- R143: a channel becomes PRESENT only by an answered DESCRIBE of a revive or of the inventory, and
ABSENT only by a power-on reset. -/
def Obligations.PresenceIsGainedOnlyByDescribe : Prop :=
  ∀ (c : Instr) (s t : State) (n : Channel), exec c s = .next t →
    (s.bus[n].presence ≠ .present → t.bus[n].presence = .present →
      (∃ a, c = .describeAnswered a ∧ s.exchange = some (.describe n)) ∨
      ∃ a, c = .inventoryAnswered a ∧ s.exchange = some (.inventory n)) ∧
    (s.bus[n].presence ≠ .absent → t.bus[n].presence = .absent →
      ∃ p g, c = .powerOnReset p g ∨ c = .lineBreak p g ∧ s.ctrl = .starting)

/-! ### Resets and the string port -/

/-- A power-on reset: the tables of R19, R21, R81, R101, R154, R171, R178 and R181, STARTING, controller
time 0. Its dno and break detector are the model's choice when the RESET pin falls in a break (log 5). -/
def Obligations.PowerOnResetState : Prop :=
  ∀ (p g : Bool) (s : State), ∃ t, exec (.powerOnReset p g) s = .next t ∧ ResetValues p g t ∧
    t.dno = .idle ∧ t.breakWait = false ∧ t.ctrl = .starting ∧ t.time = 0 ∧ t.inventory = 0 ∧
    (∀ c : Channel, t.bus[c] = { presence := .absent, caps := none, misses := 0, confirmKey := ⟨none, none, none⟩,
                                 adjustKey := ⟨none, none, none⟩, probation := none }) ∧
    t.pending = s.pending

/-- R8, R9: a break resets the part at its detection and is relayed on DNO; a string reset while RUNNING
keeps controller time, presence states (REVIVING made FAULTED) and capabilities, a power-on reset while
STARTING starts the inventory again. A line that stays spacing gives no second break, and the relay ends
once; without one, its end is no event (log 7). That the detector is ready again at the end of the relayed
break, where R8 readies it at the first marking of DNI, is the model's choice (log 6). -/
def Obligations.BreakResetsAndIsRelayedOnce : Prop :=
  ∀ (p g : Bool) (s : State),
   (s.breakWait = false → exec .breakRelayEnd s = .fault .noBreakRelay ∧
    ∃ t, exec (.lineBreak p g) s = .next t ∧ ResetValues p g t ∧ t.dno = .spacing ∧ t.breakWait = true ∧
      t.ctrl = s.ctrl ∧
      (s.ctrl = .running → t.time = s.time ∧ ∀ c : Channel, t.bus[c] =
        { presence := if s.bus[c].presence = .reviving then .faulted else s.bus[c].presence,
          caps := s.bus[c].caps, misses := 0, confirmKey := ⟨none, none, none⟩,
          adjustKey := ⟨none, none, none⟩, probation := none }) ∧
      (s.ctrl = .starting → t.time = 0 ∧ t.inventory = 0 ∧ ∀ c : Channel, t.bus[c] =
        { presence := .absent, caps := none, misses := 0, confirmKey := ⟨none, none, none⟩,
          adjustKey := ⟨none, none, none⟩, probation := none })) ∧
   (s.breakWait = true → exec (.lineBreak p g) s = .next s ∧
    exec .breakRelayEnd s = .next { s with dno := .idle, breakWait := false })

/-- R2: becoming terminal abandons DNO and empties the down relay buffer; becoming non-terminal and a
level that is no change touch nothing else. A relayed break runs on (log 17). -/
def Obligations.TerminalStatusChanges : Prop :=
  ∀ s : State,
    (s.terminal = false → ∃ t, exec (.terminalStatusChange true) s = .next t ∧
      t = { s with terminal := true, downBuf := [], dno := t.dno } ∧
      (s.dno = .spacing → t.dno = .spacing) ∧ (s.dno ≠ .spacing → t.dno = .idle)) ∧
    (s.terminal = true → exec (.terminalStatusChange false) s = .next { s with terminal := false }) ∧
    exec (.terminalStatusChange s.terminal) s = .next s

/-- R3, R5: an early discard is a check error of its lane, but for spacing that lasts into a break; UPI
is ignored at a terminal. R4, R5: a discarded frame is a check error when it fails its checks and an
overrun when it passes them and the buffer is full. R2, R9: what arrives on UPI at a terminal segment
changes nothing, and neither does UPI held spacing on any segment. -/
def Obligations.DiscardsAreCountedOrIgnored : Prop :=
  ∀ (lane : StringLane) (s : State),
   exec .upiSpacing s = .next s ∧
   (s.terminal = true → ∀ cause kind rx,
    exec (.frameEarlyDiscard .up cause) s = .next s ∧ exec (.discardedFrame .up kind rx) s = .next s ∧
    exec (.upFrameAccepted kind rx) s = .next s) ∧
   (¬ (lane = .up ∧ s.terminal = true) →
    (∀ cause, exec (.frameEarlyDiscard lane cause) s =
      .next (if cause = .stopMissing false then s else checkErrorCounted lane s)) ∧
    (∀ kind rx, ¬ passesChecks lane (frameOf kind rx) →
      exec (.discardedFrame lane kind rx) s = .next (checkErrorCounted lane s)) ∧
    (∀ kind rx, passesChecks lane (frameOf kind rx) → bufferFull lane s →
      exec (.discardedFrame lane kind rx) s = .next (overrunCounted lane s)))

/-- R4: a frame of any kind the part acts on that fails its checks is a down check error, and one that
finds four frames in the buffer is a down overrun; neither is acted on or relayed. -/
def Obligations.BadAndOverrunFramesAreNotActedOn : Prop :=
  ∀ (k : Kind) (rx : RxFrame) (s : State),
    (¬ GoodFrame k rx → exec (frameCommand k rx) s = .next { s with downCheck := min (s.downCheck + 1) 255 }) ∧
    (GoodFrame k rx → 4 ≤ s.downBuf.length →
      exec (frameCommand k rx) s = .next { s with downOverrun := min (s.downOverrun + 1) 255 })

/-- R4, R6, R16: an unknown kind on the down lane is relayed unaltered or dropped at the terminal, and an
accepted up frame enters the up relay buffer as received. -/
def Obligations.UnknownAndUpFramesAreRelayedAsReceived : Prop :=
  ∀ (kind : Byte) (rx : RxFrame) (s : State),
    (kindOf kind = none → passesChecks .down (frameOf kind rx) → s.downBuf.length < 4 →
      ∃ t, exec (.unknownKindFrame kind rx) s = .next t ∧ t = { s with downBuf := t.downBuf } ∧
        Relays (frameOf kind rx) s t) ∧
    (passesChecks .up (frameOf kind rx) → s.upBuf.length < 4 → s.terminal = false →
      exec (.upFrameAccepted kind rx) s = .next { s with upBuf := s.upBuf ++ [frameOf kind rx] })

/-- R1, R6: the oldest frame starts on DNO exactly while the segment is not terminal, DNO is idle and
DNO_RDY is asserted, and it leaves the buffer when its last byte has been sent. -/
def Obligations.DownRelaySendsTheOldestFrame : Prop :=
  ∀ (rdy : Bool) (s : State),
    (∀ f rest, s.downBuf = f :: rest → s.terminal = false → s.dno = .idle → rdy = true →
      exec (.downRelayStart rdy) s = .next { s with dnoRdy := rdy, dno := .sending f }) ∧
    ((s.downBuf = [] ∨ s.terminal = true ∨ s.dno ≠ .idle ∨ rdy = false) →
      exec (.downRelayStart rdy) s = .next { s with dnoRdy := rdy }) ∧
    (∀ f, s.dno = .sending f →
      exec .downRelayComplete s = .next { s with dno := .idle, downBuf := s.downBuf.tail })

/-- R17, R18: the arbiter alternates while both requesters offer, grants the only one that offers, and
starts nothing otherwise; a report goes out as its record's frame. R16, R172: nothing is granted while a
frame is on UPO, and what has been sent to its last byte leaves its queue as the oldest. -/
def Obligations.MergeArbiterAlternates : Prop :=
  ∀ s : State, (s.upo = none →
    (∀ r rs f fs, s.queue = r :: rs → s.upBuf = f :: fs →
      (s.lastSource = .relay → exec (.upMergeGrant true) s = .next (granted .queue (reportFrame r) s)) ∧
      (s.lastSource = .queue → exec (.upMergeGrant true) s = .next (granted .relay f s))) ∧
    (∀ r rs, s.queue = r :: rs → s.upBuf = [] →
      exec (.upMergeGrant true) s = .next (granted .queue (reportFrame r) s)) ∧
    (∀ f fs, s.queue = [] → s.upBuf = f :: fs →
      exec (.upMergeGrant true) s = .next (granted .relay f s)) ∧
    (s.queue = [] → s.upBuf = [] → exec (.upMergeGrant true) s = .next { s with upoRdy := true }) ∧
    exec (.upMergeGrant false) s = .next { s with upoRdy := false }) ∧
   ∀ (f : Frame) (rdy : Bool),
    (s.upo = some { source := .queue, frame := f } →
      exec .reportFrameSent s = .next { s with upo := none, queue := s.queue.tail } ∧
      exec (.upMergeGrant rdy) s = .next { s with upoRdy := rdy }) ∧
    (s.upo = some { source := .relay, frame := f } →
      exec .upRelayComplete s = .next { s with upo := none, upBuf := s.upBuf.tail } ∧
      exec (.upMergeGrant rdy) s = .next { s with upoRdy := rdy })

/-- R14, R15: the number taken, the number relayed, and at the terminal one ENUM_END with the highest
number the pass can have given; a terminal without answer room does not act. -/
def Obligations.EnumerateRenumbers : Prop :=
  ∀ (rx : RxFrame) (s : State), Accepted .enumerate rx s →
    let n := (byteAt rx.payload 0).toNat
    (¬ (s.terminal = true ∧ 32 ≤ s.queue.length) →
      ∃ t, exec (.enumerate rx) s = .next t ∧
        t = { s with segNum := t.segNum, queue := t.queue, downBuf := t.downBuf } ∧
        (1 ≤ n ∧ n ≤ 250 → t.segNum.toNat = n) ∧ (¬ (1 ≤ n ∧ n ≤ 250) → t.segNum = 0) ∧
        (s.terminal = false → t.queue = s.queue ∧
          t.downBuf = s.downBuf ++ [renumbered (received .enumerate rx)
            (if 1 ≤ n ∧ n ≤ 250 then BitVec.ofNat 8 (n + 1) else byteAt rx.payload 0)]) ∧
        (s.terminal = true → t.downBuf = s.downBuf ∧
          t.queue = s.queue ++
            [reportOf t (.enumEnd (if n = 0 then 0 else if n ≤ 250 then n else 250))])) ∧
    (s.terminal = true → 32 ≤ s.queue.length → exec (.enumerate rx) s = .next s)

/-- R10, R13, R179: a management frame addressed elsewhere is only relayed; one that finds no answer
room is not acted on; one that finds the controller STARTING is answered NOT_READY, but for ASK STATUS. -/
def Obligations.ManagementFramesNotActedOn : Prop :=
  ∀ (k : Kind) (rx : RxFrame) (s : State), isManagementKind k = true → Accepted k rx s →
    (¬ Addressed rx s → ∃ t, exec (frameCommand k rx) s = .next t ∧ t = { s with downBuf := t.downBuf } ∧
      Relays (received k rx) s t) ∧
    (Addressed rx s → 32 ≤ s.queue.length → ∃ t, exec (frameCommand k rx) s = .next t ∧
      t = { s with downBuf := t.downBuf } ∧
      (rx.segment = 255 → Relays (received k rx) s t) ∧ (rx.segment ≠ 255 → t.downBuf = s.downBuf)) ∧
    (Addressed rx s → s.queue.length < 32 → s.ctrl = .starting → k ≠ .askStatus →
      ∃ t, exec (frameCommand k rx) s = .next t ∧ t = { s with downBuf := t.downBuf, queue := t.queue } ∧
        Answers k rx .notReady none .none s t)

/-! ### Task frames -/

/-- R11, R12: a task frame that this segment does not take. A marked frame of its own location offers
DOUBLE_CLAIM; an unmarked one of another location, and a RUN without essential room, offers UNCLAIMED at
the terminal; every other passes unchanged. -/
def Obligations.TaskFramesNotTaken : Prop :=
  ∀ (k : Kind) (rx : RxFrame) (s : State), isTaskKind k = true → Accepted k rx s →
    let tag := wordAt rx.payload 0
    let loc := locationAt rx.payload 2
    let owned := s.ctrl = .running ∧ ∃ i c, matchLocation s.ranges loc = .block i c
    let marked := rx.flags.getLsbD 0 = true
    let passed := ¬ owned ∨ ¬ marked ∧ k = .run ∧ 31 ≤ s.queue.length
    (owned → marked → ∃ t, exec (frameCommand k rx) s = .next t ∧
      t = { s with queue := t.queue, withheld := t.withheld, downBuf := t.downBuf } ∧
      Offers 9 (.doubleClaim tag loc) s t ∧ Relays (received k rx) s t) ∧
    (passed → ¬ marked → s.terminal = true → ∃ t, exec (frameCommand k rx) s = .next t ∧
      t = { s with queue := t.queue, withheld := t.withheld } ∧ Offers 9 (.unclaimed tag loc k) s t) ∧
    (passed → (marked ∨ s.terminal = false) → ∃ t, exec (frameCommand k rx) s = .next t ∧
      t = { s with downBuf := t.downBuf } ∧ Relays (received k rx) s t)

/-- R55, R60, R65, R67, R84: a claimed POST that passes every check makes one record, SHOWING with a head
change in an empty list, QUEUED behind every waiting entry of the same or higher urgency otherwise. -/
def Obligations.PostTakenMakesOneRecord : Prop :=
  ∀ (rx : RxFrame) (i : EntryNo) (c : Channel) (s : State), ListsStand s → Claimed .post rx i c s →
    let v := postOp rx.payload
    v.q ≤ 9999 → s.ranges[i].permPost = true → s.lanes[v.lane].enabled = true →
    s.bus[c].presence ≠ .absent → s.bus[c].presence ≠ .isolated → (∀ x ∈ s.pool, x.tag ≠ v.tag) →
    (v.condition = .ifIdle → s.slots[c] = []) →
    (v.condition = .ifLaneFree → ∀ x ∈ s.pool, x.tag ∈ s.slots[c] → x.lane ≠ v.lane) →
    (v.condition = .ifPresent → s.bus[c].presence = .present) →
    s.slots[c].length < 8 → s.pool.length < 128 →
    ∃ t, exec (.post rx) s = .next t ∧
      t = { s with pool := t.pool, slots := t.slots, disp := t.disp, beacon := t.beacon, downBuf := t.downBuf } ∧
      RelaysMarked .post rx s t ∧ (BeaconTrue s → t.beacon = s.beacon) ∧
      (∀ c' : Channel, c' ≠ c → t.slots[c'] = s.slots[c'] ∧ t.disp[c'] = s.disp[c']) ∧
      (s.slots[c] = [] → t.slots[c] = [v.tag] ∧ t.disp[c] = headChanged s s.disp[c] ∧
        t.pool = s.pool ++ [freshRecord v.tag v.loc c v.lane v.urgency v.q v.deadline none .showing]) ∧
      (∀ x xs, s.slots[c] = x :: xs → t.disp[c] = s.disp[c] ∧
        t.pool = s.pool ++ [freshRecord v.tag v.loc c v.lane v.urgency v.q v.deadline none .queued] ∧
        ∃ ahead behind, xs = ahead ++ behind ∧ t.slots[c] = x :: ahead ++ v.tag :: behind ∧
          (∀ y ∈ s.pool, y.tag ∈ ahead → v.urgency ≤ y.urgency) ∧
          (∀ y ∈ s.pool, behind.head? = some y.tag → y.urgency < v.urgency))

/-- R65, R68: a claimed POST that fails a check is refused with the reason of the first that fails, in
the order of R65; nothing else changes, and the frame is claimed all the same. R66: CONDITION_FALSE means a
list that is not empty for IF_IDLE, a listed task of the lane for IF_LANE_FREE, a channel that is not
PRESENT for IF_PRESENT; ALWAYS never fails. -/
def Obligations.PostRefusedByTheFirstFailingCheck : Prop :=
  ∀ (rx : RxFrame) (i : EntryNo) (c : Channel) (s : State) (r : RefuseReason), ListsStand s →
    Claimed .post rx i c s →
    let v := postOp rx.payload
    (if 9999 < v.q then some .badQuantity
     else if s.ranges[i].permPost = false then some .notPermitted
     else if s.lanes[v.lane].enabled = false then some .laneDisabled
     else if s.bus[c].presence = .absent then some .slotAbsent
     else if s.bus[c].presence = .isolated then some .slotIsolated
     else if ∃ x ∈ s.pool, x.tag = v.tag then some .tagInUse
     else if (v.condition = .ifIdle ∧ s.slots[c] ≠ []) ∨
         (v.condition = .ifLaneFree ∧ ∃ x ∈ s.pool, x.tag ∈ s.slots[c] ∧ x.lane = v.lane) ∨
         (v.condition = .ifPresent ∧ s.bus[c].presence ≠ .present) then some .conditionFalse
     else if 8 ≤ s.slots[c].length then some .listFull
     else if 128 ≤ s.pool.length then some .poolFull
     else none) = some r →
    ∃ t, exec (.post rx) s = .next t ∧
      t = { s with queue := t.queue, withheld := t.withheld, downBuf := t.downBuf } ∧
      Offers 2 (.refused .post v.tag v.loc c r) s t ∧ RelaysMarked .post rx s t

/-- R105: a RUN acted on that fails a whole-run check is refused whole, with the reason of the first that
fails; no location is examined. -/
def Obligations.RunRefusedWhole : Prop :=
  ∀ (rx : RxFrame) (i : EntryNo) (c : Channel) (s : State) (r : RefuseReason), Claimed .run rx i c s →
    s.queue.length + 2 ≤ 32 →
    let v := runOp rx.payload
    (if v.count < 1 ∨ 32 < v.count then some .runCount
     else if v.quantities.length ≠ 1 ∧ v.quantities.length ≠ v.count then some .runList
     else if s.ranges[i].permRun = false then some .notPermitted
     else if s.lanes[v.lane].enabled = false then some .laneDisabled
     else if ∃ q ∈ v.quantities, 9999 < q then some .badQuantity
     else none) = some r →
    ∃ t, exec (.run rx) s = .next t ∧ t = { s with queue := t.queue, downBuf := t.downBuf } ∧
      t.queue = s.queue ++ [reportOf s (.refused .run v.base v.start c r)] ∧ RelaysMarked .run rx s t

/-- R106 to R112: a RUN that passes its whole-run checks walks from its start location, location by location
in its direction, skips, stops and posts as the walk's table says, and takes in exactly one RUN_DONE with the
number posted, the stop reason and the last location examined. Each task posted joins its own channel's
list. -/
def Obligations.RunPostsConsecutiveTags : Prop :=
  ∀ (rx : RxFrame) (i : EntryNo) (c : Channel) (s : State), ListsStand s → RangesStand s.ranges →
    s.pool.length ≤ 128 → Claimed .run rx i c s → s.queue.length + 2 ≤ 32 →
    let v := runOp rx.payload
    1 ≤ v.count → v.count ≤ 32 → (v.quantities.length = 1 ∨ v.quantities.length = v.count) →
    s.ranges[i].permRun = true → s.lanes[v.lane].enabled = true → (∀ q ∈ v.quantities, q ≤ 9999) →
    ∃ (t : State) (posted : List Task) (stop : StopReason) (last : Location),
      exec (.run rx) s = .next t ∧
      t = { s with
        pool := t.pool, slots := t.slots, disp := t.disp, beacon := t.beacon, downBuf := t.downBuf,
        queue := t.queue } ∧
      RelaysMarked .run rx s t ∧
      t.queue = s.queue ++ [reportOf s (.runDone v.base posted.length stop last)] ∧
      Walks v i s 0 v.start posted stop last ∧
      t.pool = s.pool ++ posted ∧ posted.length ≤ v.count ∧ (stop = .complete ↔ posted.length = v.count) ∧
      (posted.map (·.channel)).Nodup ∧ (BeaconTrue s → t.beacon = s.beacon) ∧
      (∀ c' : Channel, (∀ x ∈ posted, x.channel ≠ c') → t.slots[c'] = s.slots[c'] ∧ t.disp[c'] = s.disp[c']) ∧
      (∀ x ∈ posted, (s.slots[x.channel] = [] →
          t.slots[x.channel] = [x.tag] ∧ t.disp[x.channel] = headChanged s s.disp[x.channel]) ∧
        (s.slots[x.channel] ≠ [] → t.disp[x.channel] = s.disp[x.channel] ∧
          t.slots[x.channel].head? = s.slots[x.channel].head? ∧
          t.slots[x.channel].Perm (x.tag :: s.slots[x.channel])))

/-- R47, R69, R70: a claimed AMEND is refused by its first failing check, and otherwise sets Q and A, with
a dirty mark and a settle window only for the SHOWING task. -/
def Obligations.AmendSetsTheQuantities : Prop :=
  ∀ (rx : RxFrame) (i : EntryNo) (c : Channel) (s : State), ListsStand s → Claimed .amend rx i c s →
    let v := tagOp rx.payload
    (∀ r : RefuseReason,
      ((9999 < v.q ∧ r = .badQuantity) ∨
        (v.q ≤ 9999 ∧ (¬ ∃ x ∈ s.pool, x.tag = v.tag ∧ x.channel = c) ∧ r = .unknownTag) ∨
        (v.q ≤ 9999 ∧ (∃ x ∈ s.pool, x.tag = v.tag ∧ x.channel = c ∧ x.state = .done) ∧ r = .alreadyDone)) →
      ∃ t, exec (.amend rx) s = .next t ∧
        t = { s with queue := t.queue, withheld := t.withheld, downBuf := t.downBuf } ∧
        Offers 2 (.refused .amend v.tag v.loc c r) s t ∧ RelaysMarked .amend rx s t) ∧
    (∀ x ∈ s.pool, x.tag = v.tag → x.channel = c → x.state ≠ .done → v.q ≤ 9999 →
      ∃ t, exec (.amend rx) s = .next t ∧
        t = { s with pool := t.pool, disp := t.disp, downBuf := t.downBuf } ∧ RelaysMarked .amend rx s t ∧
        t.pool = s.pool.map (fun y => if y.tag = x.tag then
          { x with q := v.q, a := if x.adjusted = true then min x.a v.q else v.q } else y) ∧
        (∀ c' : Channel, t.disp[c'] =
          if c' = c ∧ x.state = .showing then settledNow s { s.disp[c] with dirty := true } else s.disp[c']))

/-- R71: a claimed WITHDRAW frees a QUEUED or SHOWING task without a report, and is refused with
UNKNOWN_TAG when its channel has no such record. R72, R175: a late WITHDRAW frees the DONE record and takes
in LATE_WITHDRAW with the picked quantity; without essential room it does nothing but set the
advisory-withheld mark. The location reported is the record's own (log 20). -/
def Obligations.WithdrawFreesTheTask : Prop :=
  ∀ (rx : RxFrame) (i : EntryNo) (c : Channel) (s : State), ListsStand s → Claimed .withdraw rx i c s →
    let v := tagOp rx.payload
    ((¬ ∃ x ∈ s.pool, x.tag = v.tag ∧ x.channel = c) →
      ∃ t, exec (.withdraw rx) s = .next t ∧
        t = { s with queue := t.queue, withheld := t.withheld, downBuf := t.downBuf } ∧
        Offers 2 (.refused .withdraw v.tag v.loc c .unknownTag) s t ∧ RelaysMarked .withdraw rx s t) ∧
    (∀ x ∈ s.pool, x.tag = v.tag → x.channel = c → x.state ≠ .done →
      ∃ t, exec (.withdraw rx) s = .next t ∧
        t = { s with pool := t.pool, slots := t.slots, disp := t.disp, beacon := t.beacon, downBuf := t.downBuf } ∧
        RelaysMarked .withdraw rx s t ∧ BeaconTrue t ∧ FreesListed (fun y => y.tag = v.tag) s t) ∧
    (∀ x ∈ s.pool, x.tag = v.tag → x.channel = c → x.state = .done → ∀ p, x.picked = some p →
      ∃ t, exec (.withdraw rx) s = .next t ∧ RelaysMarked .withdraw rx s t ∧
        (s.queue.length + 2 ≤ 32 → t = { s with pool := t.pool, queue := t.queue, downBuf := t.downBuf } ∧
          t.queue = s.queue ++ [reportOf s (.lateWithdraw x.tag x.loc c x.lane x.q p)] ∧
          t.pool = s.pool.filter (fun y => y.tag ≠ x.tag)) ∧
        (32 < s.queue.length + 2 → t = { s with withheld := true, downBuf := t.downBuf }))

/-- R73: a claimed RELEASE frees a DONE record, is refused with NOT_DONE for a QUEUED or SHOWING task, and
is ignored when its channel has no such record. -/
def Obligations.ReleaseFreesADoneRecord : Prop :=
  ∀ (rx : RxFrame) (i : EntryNo) (c : Channel) (s : State), ListsStand s → Claimed .release rx i c s →
    let v := tagOp rx.payload
    ∃ t, exec (.release rx) s = .next t ∧ RelaysMarked .release rx s t ∧
      ((¬ ∃ x ∈ s.pool, x.tag = v.tag ∧ x.channel = c) → t = { s with downBuf := t.downBuf }) ∧
      (∀ x ∈ s.pool, x.tag = v.tag → x.channel = c → x.state = .done →
        t = { s with pool := s.pool.filter (fun y => y.tag ≠ v.tag), downBuf := t.downBuf }) ∧
      (∀ x ∈ s.pool, x.tag = v.tag → x.channel = c → x.state ≠ .done →
        t = { s with queue := t.queue, withheld := t.withheld, downBuf := t.downBuf } ∧
        Offers 2 (.refused .release v.tag v.loc c .notDone) s t)

/-! ### Management frames -/

/-- R180, R169: a SETUP writes its five values as clamped, answers them as taken, and the beacon follows the
new enable at once; the five values a reset gives are the defaults. -/
def Obligations.SetupTakesClampedValues : Prop :=
  (∀ (p g : Bool) (s : State), ∃ t, exec (.powerOnReset p g) s = .next t ∧ t.settleMs = 300 ∧
    t.doneHoldS = 60 ∧ t.probationS = 60 ∧ t.guardSteps = 20 ∧ t.beaconEnable = false) ∧
  ∀ (rx : RxFrame) (s : State), ActedOn .setup rx s →
    let ms := (wordAt rx.payload 0).toNat
    let h := (byteAt rx.payload 2).toNat
    let p := (byteAt rx.payload 3).toNat
    let g := (byteAt rx.payload 4).toNat
    let v : SetupValues :=
      { settleMs := if 2550 < ms then 2550 else ms - ms % 10
        doneHoldS := if h = 0 then 1 else h
        probationS := if p < 10 then 10 else p
        guardSteps := if 100 < g then 100 else g
        beaconEnable := decide (byteAt rx.payload 5 ≠ 0) }
    ∃ t, exec (.setup rx) s = .next t ∧
      t = { s with
        settleMs := v.settleMs, doneHoldS := v.doneHoldS, probationS := v.probationS,
        guardSteps := v.guardSteps, beaconEnable := v.beaconEnable, beacon := t.beacon,
        queue := t.queue, downBuf := t.downBuf } ∧
      (t.beacon = true ↔ byteAt rx.payload 5 ≠ 0 ∧ AttentionNeeded s) ∧
      Answers .setup rx .ok none (.setup v) s t

/-- R62, R63, R64: the checks of a LANES load in order, its window from the first lane on past 7 to 0, and
the dirty marks of the channels that show a lane whose look changed. -/
def Obligations.LanesLoadedWholeOrNotAtAll : Prop :=
  ∀ (rx : RxFrame) (s : State), ActedOn .lanes rx s →
    let first := (byteAt rx.payload 0).toNat
    let n := rx.payload.length - 1
    let entry := fun k => byteAt rx.payload (1 + k)
    let bad := fun k => 6 < bitsOf (entry k) 4 3 ∨ 1 < bitsOf (entry k) 0 2
    let busy := fun k => (entry k).getLsbD 7 = false ∧
      ∃ x ∈ s.pool, x.lane.val = (first + k) % 8 ∧ x.state ≠ .done
    (7 < first → AnsweredOnly .lanes rx .badEntry none .none s) ∧
    (first ≤ 7 → ∀ k, FirstFailing n bad k →
      AnsweredOnly .lanes rx .badEntry (some (BitVec.ofNat 8 ((first + k) % 8))) .none s) ∧
    (first ≤ 7 → (∀ j < n, ¬ bad j) → ∀ k, FirstFailing n busy k →
      AnsweredOnly .lanes rx .laneBusy (some (BitVec.ofNat 8 ((first + k) % 8))) .none s) ∧
    (first ≤ 7 → (∀ j < n, ¬ bad j ∧ ¬ busy j) →
      ∃ t, exec (.lanes rx) s = .next t ∧
        t = { s with lanes := t.lanes, disp := t.disp, queue := t.queue, downBuf := t.downBuf } ∧
        Answers .lanes rx .ok none .none s t ∧
        (∀ m : LaneNo,
          (∀ k < n, m.val = (first + k) % 8 →
            t.lanes[m].enabled = (entry k).getLsbD 7 ∧
            colourOf (bitsOf (entry k) 4 3) = some t.lanes[m].colour ∧
            laneCadenceOf (bitsOf (entry k) 0 2) = some t.lanes[m].cadence) ∧
          ((∀ k < n, m.val ≠ (first + k) % 8) → t.lanes[m] = s.lanes[m])) ∧
        ∀ c : Channel,
          let shows := ∃ x, showingOf s c = some x ∧
            (t.lanes[x.lane].colour ≠ s.lanes[x.lane].colour ∨ t.lanes[x.lane].cadence ≠ s.lanes[x.lane].cadence)
          (shows → t.disp[c] = { s.disp[c] with dirty := true }) ∧ (¬ shows → t.disp[c] = s.disp[c]))

/-- R28 to R35: the checks of a RANGES load in the order of R31, each with its reason and failing index,
and the window written whole when all pass. -/
def Obligations.RangesLoadedWholeOrNotAtAll : Prop :=
  ∀ (rx : RxFrame) (s : State), ActedOn .ranges rx s → RangesStand s.ranges →
    let first := (byteAt rx.payload 0).toNat
    let n := (rx.payload.length - 1) / 10
    let entry := fun k => entryOpAt rx.payload (1 + 10 * k)
    let index := fun k => windowIndex first k
    let after := loadedTable s.ranges (loadWindow first (entryOps rx.payload))
    let locked := fun k => s.ranges[index k].locked = true
    let bad := fun k => ¬ EntryFits (entry k)
    let overlaps := fun k => ∃ (j : EntryNo) (c : Channel), j ≠ index k ∧
      inSpan after[index k] c = true ∧ inSpan after[j] c = true
    let busy := fun k => s.ranges[index k].mode = .block ∧ ¬ SameGeometry s.ranges[index k] after[index k] ∧
      ∃ c : Channel, inSpan s.ranges[index k] c = true ∧ s.slots[c] ≠ []
    let named := fun k => some (BitVec.ofNat 8 (index k).val)
    (15 < first → AnsweredOnly .ranges rx .badEntry none .none s) ∧
    (first ≤ 15 →
      (∀ k, FirstFailing n locked k → AnsweredOnly .ranges rx .locked (named k) .none s) ∧
      ((∀ j < n, ¬ locked j) → ∀ k, FirstFailing n bad k → AnsweredOnly .ranges rx .badEntry (named k) .none s) ∧
      ((∀ j < n, ¬ locked j ∧ ¬ bad j) → ∀ k, FirstFailing n overlaps k →
        AnsweredOnly .ranges rx .badEntry (named k) .none s) ∧
      ((∀ j < n, ¬ locked j ∧ ¬ bad j ∧ ¬ overlaps j) → ∀ k, FirstFailing n busy k →
        AnsweredOnly .ranges rx .rangeBusy (named k) .none s) ∧
      ((∀ j < n, ¬ locked j ∧ ¬ bad j ∧ ¬ overlaps j ∧ ¬ busy j) →
        ∃ t, exec (.ranges rx) s = .next t ∧
          t = { s with ranges := t.ranges, queue := t.queue, downBuf := t.downBuf } ∧
          Answers .ranges rx .ok none .none s t ∧
          (∀ k < n, entryOf (entry k) = some t.ranges[index k]) ∧
          ∀ i : EntryNo, (∀ k < n, i ≠ index k) → t.ranges[i] = s.ranges[i]))

/-- R36: a LOCK locks every entry it names, or all entries in the all form, and changes nothing else of
them; an index above 15 refuses it whole. -/
def Obligations.LockLocksTheNamedEntries : Prop :=
  ∀ (rx : RxFrame) (s : State), ActedOn .lock rx s →
    (∀ k, FirstFailing rx.payload.length (fun k => 15 < (byteAt rx.payload k).toNat) k →
      AnsweredOnly .lock rx .badEntry (some (byteAt rx.payload k)) .none s) ∧
    ((∀ b ∈ rx.payload, b.toNat ≤ 15) →
      ∃ t, exec (.lock rx) s = .next t ∧
        t = { s with ranges := t.ranges, queue := t.queue, downBuf := t.downBuf } ∧
        Answers .lock rx .ok none .none s t ∧
        ∀ i : EntryNo, t.ranges[i] = { s.ranges[i] with locked := t.ranges[i].locked } ∧
          (t.ranges[i].locked = true ↔
            s.ranges[i].locked = true ∨ rx.payload = [] ∨ ∃ b ∈ rx.payload, b.toNat = i.val))

/-- R38, R39, R78, R79: a PURGE frees every QUEUED and SHOWING task on the named entry's span, a SWEEP those
of the named lane or of all lanes, and each answers their number; an index above 15, and a lane above 7
other than the all form, is refused. -/
def Obligations.PurgeAndSweepFreeAndCount : Prop :=
  ∀ (rx : RxFrame) (s : State), ListsStand s →
   (ActedOn .purge rx s →
    (15 < (byteAt rx.payload 0).toNat →
      AnsweredOnly .purge rx .badEntry (some (byteAt rx.payload 0)) .none s) ∧
    ∀ i : EntryNo, i.val = (byteAt rx.payload 0).toNat →
      ∃ t, exec (.purge rx) s = .next t ∧
        t = { s with
          pool := t.pool, slots := t.slots, disp := t.disp, beacon := t.beacon, queue := t.queue,
          downBuf := t.downBuf } ∧
        FreesListed (fun x => inSpan s.ranges[i] x.channel = true) s t ∧ BeaconTrue t ∧
        Answers .purge rx .ok none
          (.count (s.pool.countP fun x => decide (x.state ≠ .done) && inSpan s.ranges[i] x.channel)) s t) ∧
   (ActedOn .sweep rx s →
    let b := byteAt rx.payload 0
    (7 < b.toNat → b ≠ 0xFF → AnsweredOnly .sweep rx .badEntry (some b) .none s) ∧
    (b.toNat ≤ 7 ∨ b = 0xFF →
      ∃ t, exec (.sweep rx) s = .next t ∧
        t = { s with
          pool := t.pool, slots := t.slots, disp := t.disp, beacon := t.beacon, queue := t.queue,
          downBuf := t.downBuf } ∧
        FreesListed (fun x => b = 0xFF ∨ x.lane.val = b.toNat) s t ∧ BeaconTrue t ∧
        Answers .sweep rx .ok none
          (.count (s.pool.countP fun x => decide (x.state ≠ .done ∧ (b = 0xFF ∨ x.lane.val = b.toNat)))) s t))

/-- R158, R159, R162, R163, R167: HOLD and RESUME. Only a hold set that was empty makes a hold beginning,
which marks the PRESENT channels dirty and ends a lamp test without settle windows; only one that becomes
empty makes a hold ending, which marks the PRESENT channels dirty and starts a settle window on each. -/
def Obligations.HoldFreezesAndResumeFrees : Prop :=
  ∀ (rx : RxFrame) (s : State),
   (ActedOn .hold rx s →
    (s.head = true → AnsweredOnly .hold rx .alreadyHeld none .none s) ∧
    (s.head = false → ∃ t, exec (.hold rx) s = .next t ∧ Answers .hold rx .ok none .none s t ∧
      (s.guard = true → t = { s with head := true, queue := t.queue, downBuf := t.downBuf }) ∧
      (s.guard = false → HoldBegan s t ∧
        t = { s with head := true, test := none, disp := t.disp, queue := t.queue, downBuf := t.downBuf }))) ∧
   (ActedOn .resume rx s →
    (s.head = false → AnsweredOnly .resume rx .notHeld none .none s) ∧
    (s.head = true → ∃ t, exec (.resume rx) s = .next t ∧ Answers .resume rx .ok none .none s t ∧
      (s.guard = true → t = { s with head := false, queue := t.queue, downBuf := t.downBuf }) ∧
      (s.guard = false → HoldEnded s t ∧
        t = { s with head := false, disp := t.disp, queue := t.queue, downBuf := t.downBuf })))

/-- R147: the table of a REVIVE, line by line. -/
def Obligations.ReviveStartsTheProbe : Prop :=
  ∀ (rx : RxFrame) (s : State), ActedOn .revive rx s →
    (63 < (byteAt rx.payload 0).toNat →
      AnsweredOnly .revive rx .badEntry (some (byteAt rx.payload 0)) .none s) ∧
    ∀ c : Channel, c.val = (byteAt rx.payload 0).toNat →
      let p := s.bus[c].presence
      let force := byteAt rx.payload 1 ≠ 0
      (p = .present ∨ p = .reviving → AnsweredOnly .revive rx .notFaulted none .none s) ∧
      (p = .isolated → ¬ force → AnsweredOnly .revive rx .isolatedNeedsForce none .none s) ∧
      (p = .faulted ∨ p = .absent ∨ (p = .isolated ∧ force) →
        ∃ t, exec (.revive rx) s = .next t ∧
          t = { s with bus := t.bus, beacon := t.beacon, queue := t.queue, downBuf := t.downBuf } ∧
          OnlyAt c { s.bus[c] with presence := .reviving, misses := 0 } s.bus t.bus ∧ BeaconTrue t ∧
          Answers .revive rx .ok none .none s t)

/-- R164, R165, R166, R37: the table of a TEST. A test that starts or replaces one holds the colour, the end
time and the PRESENT channels that the locks permit, and marks the old and the new set dirty. -/
def Obligations.TestStartsOrReplaces : Prop :=
  ∀ (rx : RxFrame) (s : State), ActedOn .test rx s →
    let d := (byteAt rx.payload 1).toNat
    let seconds := if d < 1 then 1 else if 60 < d then 60 else d
    (6 < (byteAt rx.payload 0).toNat → AnsweredOnly .test rx .badEntry none .none s) ∧
    ((byteAt rx.payload 0).toNat ≤ 6 → s.head = true ∨ s.guard = true →
      AnsweredOnly .test rx .held none .none s) ∧
    (∀ colour, colourOf (byteAt rx.payload 0).toNat = some colour → s.head = false → s.guard = false →
      ∃ t x, exec (.test rx) s = .next t ∧
        t = { s with test := some x, disp := t.disp, queue := t.queue, downBuf := t.downBuf } ∧
        x.colour = colour ∧ x.endTime = s.time + BitVec.ofNat 32 (seconds * 100) ∧ x.set.Nodup ∧
        (∀ c, c ∈ x.set ↔ s.bus[c].presence = .present ∧ LocksPermit s c) ∧
        (∀ c : Channel, t.disp[c] =
          if s.inTest c = true ∨ c ∈ x.set then { s.disp[c] with dirty := true } else s.disp[c]) ∧
        Answers .test rx .ok none (.lampTest seconds x.set.length) s t)

/-- R182, R176, R5: ASK STATUS answers the summary in either controller state and clears the
advisory-withheld mark and the four counts. -/
def Obligations.AskStatusAnswersAndClears : Prop :=
  ∀ (rx : RxFrame) (s : State), Accepted .askStatus rx s → Addressed rx s → s.queue.length < 32 →
    s.pool.length ≤ 128 →
    ∃ t v, exec (.askStatus rx) s = .next t ∧
      t = { s with
        withheld := false, downCheck := 0, downOverrun := 0, upCheck := 0, upOverrun := 0,
        queue := t.queue, downBuf := t.downBuf } ∧
      Answers .askStatus rx .ok none (.status v) s t ∧
      v.ctrl = s.ctrl ∧ v.segment = s.segNum ∧
      v.queued = s.pool.countP (fun x => decide (x.state = .queued)) ∧
      v.showing = s.pool.countP (fun x => decide (x.state = .showing)) ∧
      v.done = s.pool.countP (fun x => decide (x.state = .done)) ∧
      v.queued + v.showing + v.done + v.free = 128 ∧ v.depth = s.queue.length ∧
      v.head = s.head ∧ v.guard = s.guard ∧ v.testing = s.test.isSome ∧
      v.beaconEnable = s.beaconEnable ∧ v.beacon = s.beacon ∧
      v.absent + v.present + v.faulted + v.reviving + v.isolated = 64 ∧
      v.present = (List.finRange 64).countP (fun c => decide (s.bus[c].presence = .present)) ∧
      v.absent = (List.finRange 64).countP (fun c => decide (s.bus[c].presence = .absent)) ∧
      v.faulted = (List.finRange 64).countP (fun c => decide (s.bus[c].presence = .faulted)) ∧
      v.reviving = (List.finRange 64).countP (fun c => decide (s.bus[c].presence = .reviving)) ∧
      v.withheld = s.withheld ∧ v.downCheck = s.downCheck ∧ v.downOverrun = s.downOverrun ∧
      v.upCheck = s.upCheck ∧ v.upOverrun = s.upOverrun

/-- R183, R184: ASK SLOT answers one channel and ASK TASK one live record of the whole pool; neither
changes anything else. -/
def Obligations.AskSlotAndAskTaskAnswer : Prop :=
  ∀ (rx : RxFrame) (s : State), ListsStand s →
    (ActedOn .askSlot rx s →
      (63 < (byteAt rx.payload 0).toNat →
        AnsweredOnly .askSlot rx .badEntry (some (byteAt rx.payload 0)) .none s) ∧
      ∀ c : Channel, c.val = (byteAt rx.payload 0).toNat →
        AnsweredOnly .askSlot rx .ok none (.slot
          { presence := s.bus[c].presence, caps := s.bus[c].caps,
            settle := if s.disp[c].settleOpen s.time = true then (s.disp[c].settleEnd - s.time).toNat else 0,
            content := s.disp[c].lastSent, tags := s.slots[c] }) s) ∧
    (ActedOn .askTask rx s →
      (∀ x ∈ s.pool, x.tag = wordAt rx.payload 0 → AnsweredOnly .askTask rx .ok none (.task x) s) ∧
      ((∀ x ∈ s.pool, x.tag ≠ wordAt rx.payload 0) → AnsweredOnly .askTask rx .unknownTag none .none s))

/-! ### Controller time and the timers -/

/-- R48, R50, R51, R52: an advance always moves time by one. At one that finds no expiry outstanding (log 8) a
remaining time is lowered while its task is SHOWING on a PRESENT channel and nothing freezes the segment; a
done hold is lowered always; a settle end that is reached has passed. A count at its last unit is left to its
expiry command, which may then come, and its tag is among the lapsing ones (the model's choice, log 23). -/
def Obligations.TimeAdvanceLowersTheCounts : Prop :=
  ∀ s : State, (∃ t, exec .timeAdvance s = .next t ∧ t.time = s.time + 1) ∧
   (NothingDue s →
    ∃ t, exec .timeAdvance s = .next t ∧
      t = { s with time := s.time + 1, pool := t.pool, disp := t.disp, lapsing := t.lapsing } ∧
      t.pool = s.pool.map (fun x => { x with
        remaining := if x.state = .showing ∧ s.head = false ∧ s.guard = false ∧ s.test = none ∧
            s.bus[x.channel].presence = .present then x.remaining.map loweredTo else x.remaining
        doneHold := if x.state = .done then x.doneHold.map loweredTo else x.doneHold }) ∧
      (∀ tag : Tag, tag ∈ t.lapsing ↔ ∃ x ∈ s.pool, x.tag = tag ∧
        (Counts s x ∧ x.remaining = some 1 ∨ x.state = .done ∧ x.doneHold = some 1)) ∧
      ∀ c : Channel, t.disp[c] = { s.disp[c] with settlePassed := t.disp[c].settlePassed } ∧
        (t.disp[c].settlePassed = true ↔
          s.disp[c].settlePassed = true ∨ before (s.time + 1) s.disp[c].settleEnd = false))

/-- R50: starting a settle window never shortens an open one; the settle remaining becomes the larger of
what was open and S, and the rest of the display record is as it was. The windows the part opens are of at
most 255 units (R49). -/
def Obligations.SettleWindowsAreNeverShortened : Prop :=
  ∀ (now : Time) (units : Nat) (d : DisplayRec), units ≤ 255 → d.settleRemaining now ≤ 255 →
    (d.settlePassed = false → before now d.settleEnd = true) →
    (startSettle now units d).settleRemaining now = max (d.settleRemaining now) units ∧
    (startSettle now units d).settleOpen now = decide (0 < max (d.settleRemaining now) units) ∧
    startSettle now units d = { d with
      settleEnd := (startSettle now units d).settleEnd
      settlePassed := (startSettle now units d).settlePassed }

/-- R51, R74, R77, R92, R149, R167: a SHOWING task whose remaining time reaches 0 is expired at that event,
with its channel dirty, the beacon re-evaluated and one EXPIRED offered; a done hold that reaches 0 frees its
record without a report; a wait blink ends with a dirty mark; a probation ends; a lamp test ends with a dirty
mark and a settle window on its set. Which counts reach 0 is held in the model's own lapsing field (log 23),
set at the advance: a hold, a test or a third miss taken after it does not stop the expiry (R51).
An expiry that is not due is no event (log 7). -/
def Obligations.TimersExpire : Prop :=
  ∀ s : State, ListsStand s →
    (∀ x ∈ s.pool, x.tag ∈ s.lapsing → x.state = .showing → x.remaining = some 1 →
      ∃ t, exec (.deadlineExpiry x.channel) s = .next t ∧
        t = { s with
          pool := t.pool, disp := t.disp, beacon := t.beacon, queue := t.queue, withheld := t.withheld } ∧
        t.pool = s.pool.map (fun y => if y.tag = x.tag then
          { y with remaining := some 0, expired := true } else y) ∧
        OnlyAt x.channel { s.disp[x.channel] with dirty := true } s.disp t.disp ∧ BeaconTrue t ∧
        Offers 9 (.expired x.tag x.loc x.channel x.lane) s t) ∧
    (∀ c : Channel,
      (∀ x ∈ s.pool, x.channel = c → ¬ (x.tag ∈ s.lapsing ∧ x.state = .showing ∧ x.remaining = some 1)) →
      exec (.deadlineExpiry c) s = .fault .notDue) ∧
    (∀ x ∈ s.pool, x.tag ∈ s.lapsing → x.state = .done → x.doneHold = some 1 →
      exec (.doneHoldExpiry x.tag) s = .next { s with pool := s.pool.filter (fun y => y.tag ≠ x.tag) }) ∧
    (∀ tag : Tag, (∀ x ∈ s.pool, x.tag = tag → ¬ (tag ∈ s.lapsing ∧ x.state = .done ∧ x.doneHold = some 1)) →
      exec (.doneHoldExpiry tag) s = .fault .notDue) ∧
    (∀ c : Channel,
      (s.disp[c].waitBlinkEnd = none → exec (.waitBlinkExpiry c) s = .fault .notDue) ∧
      (∀ e, s.disp[c].waitBlinkEnd = some e →
        (before s.time e = true → exec (.waitBlinkExpiry c) s = .fault .notDue) ∧
        (before s.time e = false → ∃ t, exec (.waitBlinkExpiry c) s = .next t ∧ t = { s with disp := t.disp } ∧
          OnlyAt c { s.disp[c] with waitBlinkEnd := none, dirty := true } s.disp t.disp))) ∧
    (∀ c : Channel,
      (s.bus[c].probation = none → exec (.probationExpiry c) s = .fault .notDue) ∧
      (∀ e, s.bus[c].probation = some e →
        (before s.time e = true → exec (.probationExpiry c) s = .fault .notDue) ∧
        (before s.time e = false → ∃ t, exec (.probationExpiry c) s = .next t ∧ t = { s with bus := t.bus } ∧
          OnlyAt c { s.bus[c] with probation := none } s.bus t.bus))) ∧
    (s.test = none → exec .lampTestExpiry s = .fault .notDue) ∧
    (∀ x, s.test = some x →
      (before s.time x.endTime = true → exec .lampTestExpiry s = .fault .notDue) ∧
      (before s.time x.endTime = false →
        ∃ t, exec .lampTestExpiry s = .next t ∧ t = { s with test := none, disp := t.disp } ∧
          ∀ c : Channel, t.disp[c] =
            if c ∈ x.set then settledNow s { s.disp[c] with dirty := true } else s.disp[c]))

/-- R160, R161: an assertion puts GUARD into the hold set and cancels the release timer; a release starts
the timer and leaves GUARD in the set, but for a delay of 0, which ends at the same event; the timer's
expiry takes GUARD out. A line that is not asserted has no release (log 21), and an expiry that is not due
is no event (log 7). -/
def Obligations.GuardLineHoldsTheAisle : Prop :=
  ∀ s : State,
    (s.head = true ∨ s.guard = true →
      exec .guardAssertion s = .next { s with guardLine := true, guardTimer := none, guard := true }) ∧
    (s.head = false → s.guard = false → ∃ t, exec .guardAssertion s = .next t ∧ HoldBegan s t ∧
      t = { s with guardLine := true, guardTimer := none, guard := true, test := none, disp := t.disp }) ∧
    (s.guardLine = false → exec .guardRelease s = .next s) ∧
    (s.guardLine = true → 0 < s.guardSteps → exec .guardRelease s = .next
      { s with guardLine := false, guardTimer := some (s.time + BitVec.ofNat 32 (s.guardSteps * 10)) }) ∧
    (s.guardLine = true → s.guard = true → s.guardSteps = 0 → ∃ t, exec .guardRelease s = .next t ∧
      t = { s with guardLine := false, guardTimer := none, guard := false, disp := t.disp } ∧
      (s.head = true → t.disp = s.disp) ∧ (s.head = false → HoldEnded s t)) ∧
    (s.guardTimer = none → exec .guardReleaseTimerExpiry s = .fault .notDue) ∧
    (∀ e, s.guardTimer = some e → before s.time e = true →
      exec .guardReleaseTimerExpiry s = .fault .notDue) ∧
    (∀ e, s.guardTimer = some e → before s.time e = false → s.guard = true →
      ∃ t, exec .guardReleaseTimerExpiry s = .next t ∧
        t = { s with guardTimer := none, guard := false, disp := t.disp } ∧
        (s.head = true → t.disp = s.disp) ∧ (s.head = false → HoldEnded s t))

/-! ### The shelf bus -/

/-- R140, R151: a visit goes to the first channel from the cursor on that is PRESENT or REVIVING, with a
POLL or a DESCRIBE, and moves the cursor past it; without one there is no visit; while STARTING it is the
inventory's DESCRIBE. R141: while the batch still has a SHOW to make, no visit is made and nothing changes.
The count of the batch is the model's own (log 14). -/
def Obligations.VisitGoesToTheNextChannel : Prop :=
  ∀ s : State, s.exchange = none →
   (0 < s.batchLeft → (∃ c : Channel, s.bus[c].presence = .present ∧ s.disp[c].dirty = true) →
    exec .visit s = .next s) ∧
   ((s.batchLeft = 0 ∨ ∀ c : Channel, s.bus[c].presence = .present → s.disp[c].dirty = false) →
    let visited := fun c : Channel => s.bus[c].presence = .present ∨ s.bus[c].presence = .reviving
    (s.ctrl = .running →
      (∀ c, visited c → (∀ d, visited d → (c - s.cursor).val ≤ (d - s.cursor).val) →
        (s.bus[c].presence = .present → exec .visit s = .next { s with
          exchange := some (.poll c), cursor := c + 1, batchLeft := 0
          request := withCheckByte [BitVec.ofNat 8 c.val] }) ∧
        (s.bus[c].presence = .reviving → exec .visit s = .next { s with
          exchange := some (.describe c), cursor := c + 1, batchLeft := 0
          request := withCheckByte [BitVec.ofNat 8 (128 + c.val)] })) ∧
      ((∀ c, ¬ visited c) → exec .visit s = .next s)) ∧
    (s.ctrl = .starting → exec .visit s = .next { s with
      exchange := some (.inventory s.inventory), batchLeft := 0
      request := withCheckByte [BitVec.ofNat 8 (128 + s.inventory.val)] }))

/-- R89, R90, R96, R141: a SHOW goes to the lowest dirty PRESENT channel, carries the content derived at its
start and clears the mark; with none the batch ends (log 14). After the last SHOW of the batch none is made
and nothing changes. -/
def Obligations.ShowCarriesTheDerivedContent : Prop :=
  ∀ s : State, ListsStand s → s.exchange = none →
   (s.batchLeft = 0 → exec .showStart s = .next s) ∧
   (0 < s.batchLeft →
    let due := fun c : Channel => s.bus[c].presence = .present ∧ s.disp[c].dirty = true
    (∀ (c : Channel) (k : Caps), due c → (∀ d, due d → c ≤ d) → s.bus[c].caps = some k →
      ∃ t x, exec .showStart s = .next t ∧
        t = { s with
          exchange := some (.display c x), batchLeft := s.batchLeft - 1, disp := t.disp
          request := withCheckByte (BitVec.ofNat 8 (64 + c.val) :: contentBytes x) } ∧
        OnlyAt c { s.disp[c] with dirty := false } s.disp t.disp ∧ ContentIs s c k.digits x) ∧
    ((∀ c, ¬ due c) → exec .showStart s = .next { s with batchLeft := 0 }))

/-- R96, R97, R144: an acknowledged SHOW makes what it carried the last content sent and returns the miss
count to 0; a mark made meanwhile stays. -/
def Obligations.AcknowledgedShowIsTheLastContent : Prop :=
  ∀ (s : State) (c : Channel) (k : Content) (a : List Byte), s.exchange = some (.display c k) →
    GoodAnswer 1 0 c a →
    ∃ t, exec (.showAcknowledged a) s = .next t ∧ t = { showEnded s with disp := t.disp, bus := t.bus } ∧
      OnlyAt c { s.disp[c] with lastSent := some k } s.disp t.disp ∧
      OnlyAt c { s.bus[c] with misses := 0 } s.bus t.bus

/-- R137, R144, R96: a silent exchange is a miss, below the third with no other effect but a SHOW's, whose
content becomes unknown and owed again; an answer that is not good counts as silence (log 13). -/
def Obligations.SilentExchangesAreMisses : Prop :=
  ∀ (s : State) (c : Channel) (k : Content),
    (s.bus[c].misses < 2 →
      (s.exchange = some (.poll c) → ∃ t, exec .pollSilent s = .next t ∧
        t = { visitEnded s with bus := t.bus } ∧
        OnlyAt c { s.bus[c] with misses := s.bus[c].misses + 1 } s.bus t.bus) ∧
      (s.exchange = some (.describe c) → ∃ t, exec .describeSilent s = .next t ∧
        t = { visitEnded s with bus := t.bus } ∧
        OnlyAt c { s.bus[c] with misses := s.bus[c].misses + 1 } s.bus t.bus) ∧
      (s.exchange = some (.inventory c) → ∃ t, exec .inventorySilent s = .next t ∧
        t = { visitEnded s with bus := t.bus } ∧
        OnlyAt c { s.bus[c] with misses := s.bus[c].misses + 1 } s.bus t.bus) ∧
      (s.exchange = some (.display c k) → ∃ t, exec .showSilent s = .next t ∧
        t = { showEnded s with bus := t.bus, disp := t.disp } ∧
        OnlyAt c { s.bus[c] with misses := s.bus[c].misses + 1 } s.bus t.bus ∧
        OnlyAt c { s.disp[c] with lastSent := none, dirty := true } s.disp t.disp)) ∧
    ∀ a : List Byte,
      (s.exchange = some (.poll c) → ¬ GoodAnswer 0 1 c a → exec (.pollAnswered a) s = exec .pollSilent s) ∧
      (s.exchange = some (.display c k) → ¬ GoodAnswer 1 0 c a →
        exec (.showAcknowledged a) s = exec .showSilent s) ∧
      (s.exchange = some (.describe c) → ¬ (GoodAnswer 2 4 c a ∧ DescribeInRange a) →
        exec (.describeAnswered a) s = exec .describeSilent s) ∧
      (s.exchange = some (.inventory c) → ¬ (GoodAnswer 2 4 c a ∧ DescribeInRange a) →
        exec (.inventoryAnswered a) s = exec .inventorySilent s)

/-- R144, R145, R146, R165: the third miss makes a PRESENT channel FAULTED, or ISOLATED in probation, and a
REVIVING one ISOLATED: key histories, content and probation gone, out of the test set, MODULE_FAULT offered
and the beacon re-evaluated; slot lists, tasks and capabilities are kept. R149: a channel is taken to be in
probation until its probation has become none, whatever controller time says (the model's reading, log 9). -/
def Obligations.ThirdMissTakesTheChannelOut : Prop :=
  ∀ (s : State) (c : Channel), s.bus[c].misses = 2 →
    (s.bus[c].presence = .present → s.exchange = some (.poll c) → ∃ t, exec .pollSilent s = .next t ∧
      t = { visitEnded s with
        bus := t.bus, disp := t.disp, test := t.test, beacon := t.beacon, queue := t.queue,
        withheld := t.withheld } ∧
      ChannelLost c s.bus[c].probation.isSome s t ∧
      OnlyAt c { s.disp[c] with lastSent := none } s.disp t.disp) ∧
    (∀ k, s.bus[c].presence = .present → s.exchange = some (.display c k) → ∃ t, exec .showSilent s = .next t ∧
      t = { showEnded s with
        bus := t.bus, disp := t.disp, test := t.test, beacon := t.beacon, queue := t.queue,
        withheld := t.withheld } ∧
      ChannelLost c s.bus[c].probation.isSome s t ∧
      OnlyAt c { s.disp[c] with lastSent := none, dirty := true } s.disp t.disp) ∧
    (s.bus[c].presence = .reviving → s.exchange = some (.describe c) → ∃ t, exec .describeSilent s = .next t ∧
      t = { visitEnded s with
        bus := t.bus, disp := t.disp, test := t.test, beacon := t.beacon, queue := t.queue,
        withheld := t.withheld } ∧
      ChannelLost c true s t ∧ OnlyAt c { s.disp[c] with lastSent := none } s.disp t.disp)

/-- R117, R118, R144: an answered POLL returns the miss count to 0 and is one reading of the confirm key,
and of the adjust key where the module has one; a reading that makes no press changes nothing else. -/
def Obligations.AnsweredPollIsOneReading : Prop :=
  ∀ (s : State) (c : Channel) (a : List Byte), Polled c a s →
    ∃ t h j, exec (.pollAnswered a) s = .next t ∧
      OnlyAt c { s.bus[c] with misses := 0, confirmKey := h, adjustKey := j } s.bus t.bus ∧
      ReadInto (levelIn a 0) s.bus[c].confirmKey h ∧
      ((∃ k, s.bus[c].caps = some k ∧ k.adjustKey = true) → ReadInto (levelIn a 1) s.bus[c].adjustKey j) ∧
      ((¬ ∃ k, s.bus[c].caps = some k ∧ k.adjustKey = true) → j = s.bus[c].adjustKey) ∧
      (¬ ConfirmPressed c a s → ¬ AdjustPressed c a s → t = { visitEnded s with bus := t.bus })

/-- R120, R121, R126, R127: a confirm press that meets none of the other cases is taken. The SHOWING task
becomes DONE with its A as picked, after an adjust press of the same reading, and leaves its list; the next
one shows; one CONFIRMED is taken in. -/
def Obligations.ConfirmPressTaken : Prop :=
  ∀ (s : State) (c : Channel) (a : List Byte) (x : Task), ListsStand s → Polled c a s →
    ConfirmPressed c a s → Free s → x ∈ s.pool → s.slots[c].head? = some x.tag →
    s.disp[c].settleOpen s.time = false → s.queue.length + 2 ≤ 32 →
    x.a ≤ x.q →
    ∀ (picked : Nat) (adj : Bool),
    (AdjustPressed c a s → picked = x.a - 1) → (¬ AdjustPressed c a s → picked = x.a) →
    (AdjustPressed c a s ∧ x.q ≠ 0 → adj = true) → (¬ (AdjustPressed c a s ∧ x.q ≠ 0) → adj = x.adjusted) →
    ∃ t, exec (.pollAnswered a) s = .next t ∧
      t = { visitEnded s with
        bus := t.bus, pool := t.pool, slots := t.slots, disp := t.disp, beacon := t.beacon, queue := t.queue } ∧
      t.queue = s.queue ++
        [reportOf s (.confirmed x.tag x.loc c x.lane x.q picked (decide (picked < x.q)))] ∧
      OnlyAt c s.slots[c].tail s.slots t.slots ∧
      (s.slots[c].tail = [] → OnlyAt c (wentDark s s.disp[c]) s.disp t.disp) ∧
      (s.slots[c].tail ≠ [] → OnlyAt c (headChanged s s.disp[c]) s.disp t.disp) ∧
      BeaconTrue t ∧
      t.pool = s.pool.map (fun y =>
        if y.tag = x.tag then
          { x with state := .done, a := picked, adjusted := adj, picked := some picked,
                   doneHold := some (s.doneHoldS * 100) }
        else if s.slots[c].tail.head? = some y.tag then { y with state := .showing } else y)

/-- R120 to R125: a confirm press that is ignored or set aside: ignored in a frozen aisle; STALE_PRESS without
a tag on an empty list and with the SHOWING task inside its settle window; the wait blink, without a report,
when the queue has fewer than 2 free places. An adjust press of the same reading comes first: it is set aside
with it in the first three cases, and in the last it is taken, but for an indicate-only task. -/
def Obligations.ConfirmPressSetAside : Prop :=
  ∀ (s : State) (c : Channel) (a : List Byte), ListsStand s → Polled c a s →
    ConfirmPressed c a s →
    ∃ t, exec (.pollAnswered a) s = .next t ∧
      (¬ Free s → t = { visitEnded s with bus := t.bus }) ∧
      (Free s → s.slots[c] = [] →
        t = { visitEnded s with bus := t.bus, queue := t.queue, withheld := t.withheld } ∧
        Offers 9 (.stalePress c none) s t) ∧
      (∀ x ∈ s.pool, Free s → s.slots[c].head? = some x.tag → s.disp[c].settleOpen s.time = true →
        t = { visitEnded s with bus := t.bus, queue := t.queue, withheld := t.withheld } ∧
        Offers 9 (.stalePress c (some
          { tag := x.tag, loc := x.loc, lane := x.lane, settle := (s.disp[c].settleEnd - s.time).toNat })) s t) ∧
      (∀ x ∈ s.pool, Free s → s.slots[c].head? = some x.tag → s.disp[c].settleOpen s.time = false →
        31 ≤ s.queue.length →
        t = { visitEnded s with bus := t.bus, pool := t.pool, disp := t.disp } ∧
        (AdjustPressed c a s ∧ x.q ≠ 0 → t.pool = s.pool.map (fun y =>
          if y.tag = x.tag then { y with a := y.a - 1, adjusted := true } else y)) ∧
        (¬ (AdjustPressed c a s ∧ x.q ≠ 0) → t.pool = s.pool) ∧
        OnlyAt c { s.disp[c] with dirty := true, waitBlinkEnd := some (s.time + 100) } s.disp t.disp)

/-- R46, R128, R129: an adjust press lowers A by 1 but not below 0, sets adjusted and marks the channel
dirty, with no settle window and no report; it is ignored or set aside in a frozen aisle, on an empty list,
inside a settle window and for an indicate-only task. -/
def Obligations.AdjustPressLowersTheQuantity : Prop :=
  ∀ (s : State) (c : Channel) (a : List Byte), ListsStand s → Polled c a s →
    AdjustPressed c a s → ¬ ConfirmPressed c a s →
    ∃ t, exec (.pollAnswered a) s = .next t ∧
      (¬ Free s ∨ s.slots[c] = [] ∨ s.disp[c].settleOpen s.time = true →
        t = { visitEnded s with bus := t.bus }) ∧
      ∀ x ∈ s.pool, s.slots[c].head? = some x.tag →
        (x.q = 0 → t = { visitEnded s with bus := t.bus }) ∧
        (x.q ≠ 0 → Free s → s.disp[c].settleOpen s.time = false →
          t = { visitEnded s with bus := t.bus, pool := t.pool, disp := t.disp } ∧
          t.pool = s.pool.map (fun y => if y.tag = x.tag then { y with a := y.a - 1, adjusted := true } else y) ∧
          OnlyAt c { s.disp[c] with dirty := true } s.disp t.disp)

/-- R139, R148: an answered DESCRIBE makes a REVIVING channel PRESENT with the capabilities answered, in
probation, dirty and inside a settle window, and MODULE_BACK is offered. -/
def Obligations.AnsweredDescribeBringsTheModuleBack : Prop :=
  ∀ (s : State) (c : Channel) (a : List Byte), s.exchange = some (.describe c) → GoodAnswer 2 4 c a →
    DescribeInRange a →
    ∃ t, exec (.describeAnswered a) s = .next t ∧
      t = { visitEnded s with
        bus := t.bus, disp := t.disp, queue := t.queue, withheld := t.withheld } ∧
      OnlyAt c { presence := .present, caps := some (capsIn a), misses := 0,
                 confirmKey := ⟨none, none, none⟩, adjustKey := ⟨none, none, none⟩,
                 probation := some (s.time + BitVec.ofNat 32 (s.probationS * 100)) } s.bus t.bus ∧
      OnlyAt c (settledNow s { s.disp[c] with dirty := true }) s.disp t.disp ∧
      Offers 9 (.moduleBack c s.slots[c].head?) s t

/-- R151, R152: an answered inventory DESCRIBE makes the channel PRESENT, a third miss leaves it ABSENT, and
either moves the inventory on, with channel 63 to RUNNING and poll cursor 0. -/
def Obligations.InventoryDecidesEachChannel : Prop :=
  ∀ (s : State) (c : Channel), s.exchange = some (.inventory c) →
    (∀ a, GoodAnswer 2 4 c a → DescribeInRange a → ∃ t, exec (.inventoryAnswered a) s = .next t ∧
      t = { inventoryAfter c (visitEnded s) with bus := t.bus } ∧
      OnlyAt c { presence := .present, caps := some (capsIn a), misses := 0,
                 confirmKey := ⟨none, none, none⟩, adjustKey := ⟨none, none, none⟩, probation := none }
        s.bus t.bus) ∧
    (s.bus[c].presence = .absent → s.bus[c].misses = 2 → ∃ t, exec .inventorySilent s = .next t ∧
      t = { inventoryAfter c (visitEnded s) with bus := t.bus } ∧
      OnlyAt c { s.bus[c] with misses := 0 } s.bus t.bus)

/-- The model's choice (log 7): a command that names an event the rules do not let occur in the state it
meets stops with a fault of its own: a discard of a frame that R4 does not discard, an unknown kind that
R187 lists, the last byte of a frame that is not being sent, an exchange while one is in flight, an
outcome of an exchange that is not in flight. -/
def Obligations.EventsThatCannotOccurStop : Prop :=
  ∀ s : State,
    (∀ lane kind rx, passesChecks lane (frameOf kind rx) → ¬ bufferFull lane s →
      ¬ (lane = .up ∧ s.terminal = true) →
      exec (.discardedFrame lane kind rx) s = .fault .frameNotDiscarded) ∧
    (∀ k rx, exec (.unknownKindFrame (kindCode k) rx) s = .fault .kindIsKnown) ∧
    ((∀ f, s.dno ≠ .sending f) → exec .downRelayComplete s = .fault .nothingSent) ∧
    ((∀ f, s.upo ≠ some { source := .queue, frame := f }) → exec .reportFrameSent s = .fault .nothingSent) ∧
    ((∀ f, s.upo ≠ some { source := .relay, frame := f }) → exec .upRelayComplete s = .fault .nothingSent) ∧
    (s.exchange ≠ none → exec .visit s = .fault .busOccupied ∧ exec .showStart s = .fault .busOccupied) ∧
    ∀ a : List Byte,
      ((∀ c, s.exchange ≠ some (.poll c)) →
        exec (.pollAnswered a) s = .fault .noSuchExchange ∧ exec .pollSilent s = .fault .noSuchExchange) ∧
      ((∀ c k, s.exchange ≠ some (.display c k)) →
        exec (.showAcknowledged a) s = .fault .noSuchExchange ∧ exec .showSilent s = .fault .noSuchExchange) ∧
      ((∀ c, s.exchange ≠ some (.describe c)) →
        exec (.describeAnswered a) s = .fault .noSuchExchange ∧
        exec .describeSilent s = .fault .noSuchExchange) ∧
      ((∀ c, s.exchange ≠ some (.inventory c)) →
        exec (.inventoryAnswered a) s = .fault .noSuchExchange ∧
        exec .inventorySilent s = .fault .noSuchExchange)

/-! ### Arithmetic and layouts -/

/-- R40, R41: the effective position offset q by order and evenness of the level's offset; the index
db·L·P + dl·P + q; the channel of a covered location of a BLOCK entry that a load takes is base + index,
lies in the entry's span, and differs for every other covered location. -/
def Obligations.ChannelMappingIsOneToOne : Prop :=
  ∀ (e : RangeEntry) (l m : Location), e.mode = .block → geometryFits e = true → inBounds e l = true →
    inBounds e m = true →
    let levels := e.levHi + 1 - e.levLo
    let places := e.posHi + 1 - e.posLo
    let even := (l.level - e.levLo) % 2 = 0
    let forward := e.order = .normal ∨ (e.order = .serpentine ∧ even) ∨ (e.order = .serpentineReversed ∧ ¬ even)
    (forward → posOffset e l = l.pos - e.posLo) ∧
    (¬ forward → posOffset e l = places - 1 - (l.pos - e.posLo)) ∧
    posOffset e l < places ∧
    spanIndex e l = (l.bay - e.bayLo) * levels * places + (l.level - e.levLo) * places + posOffset e l ∧
    spanIndex e l < spanSize e ∧
    (mapChannel e l).val = e.base + spanIndex e l ∧ inSpan e (mapChannel e l) = true ∧
    (mapChannel e l = mapChannel e m → l = m)

/-- R42, R43: stepping. The four lines of each direction in order; the next location lies within the
bounds; ascending and descending undo each other; there is none exactly at the last and at the first
location of the rectangle. -/
def Obligations.SteppingStaysInTheRectangle : Prop :=
  ∀ (e : RangeEntry) (l m : Location), inBounds e l = true →
    (l.pos < e.posHi → nextLocation .ascending e l = some ⟨l.bay, l.level, l.pos + 1⟩) ∧
    (l.pos = e.posHi → l.level < e.levHi →
      nextLocation .ascending e l = some ⟨l.bay, l.level + 1, e.posLo⟩) ∧
    (l.pos = e.posHi → l.level = e.levHi → l.bay < e.bayHi →
      nextLocation .ascending e l = some ⟨l.bay + 1, e.levLo, e.posLo⟩) ∧
    (e.posLo < l.pos → nextLocation .descending e l = some ⟨l.bay, l.level, l.pos - 1⟩) ∧
    (l.pos = e.posLo → e.levLo < l.level →
      nextLocation .descending e l = some ⟨l.bay, l.level - 1, e.posHi⟩) ∧
    (l.pos = e.posLo → l.level = e.levLo → e.bayLo < l.bay →
      nextLocation .descending e l = some ⟨l.bay - 1, e.levHi, e.posHi⟩) ∧
    (∀ d, nextLocation d e l = some m → inBounds e m = true) ∧
    (nextLocation .ascending e l = some m → nextLocation .descending e m = some l) ∧
    (nextLocation .descending e l = some m → nextLocation .ascending e m = some l) ∧
    (nextLocation .ascending e l = none ↔ l = ⟨e.bayHi, e.levHi, e.posHi⟩) ∧
    (nextLocation .descending e l = none ↔ l = ⟨e.bayLo, e.levLo, e.posLo⟩)

/-- R188: a location field holds exactly its location: every location is read back as written, and every
three bytes name the location that is written as those bytes. -/
def Obligations.LocationFieldRoundTrip : Prop :=
  (∀ (l : Location) (before after : List Byte), l.bay < 4096 → l.level < 32 → l.pos < 128 →
    locationAt (before ++ locationBytes l ++ after) before.length = l) ∧
  ∀ x y z : Byte, locationBytes (locationAt [x, y, z] 0) = [x, y, z]

/-- R4, R186, R191: every report record whose answer body is of its frame's kind goes out as a frame of at
most 88 payload bytes that an upstream LS640 accepts; and no step puts another kind of record into the
queue. -/
def Obligations.ReportFramesAreAcceptedUpstream : Prop :=
  (∀ r : Report, bodyFits r.body → checkUp (reportFrame r) = .good ∧ (reportFrame r).payload.length ≤ 32) ∧
  ∀ s t : State, (∀ c : Channel, s.slots[c].length ≤ 8) → (∀ r ∈ s.queue, bodyFits r.body) →
    step s = .next t → ∀ r ∈ t.queue, bodyFits r.body

/-! ### Invariants -/

/-- The state after a power-on reset is sound, with either level of PARTNER and of GUARD, and so is
State.reset. -/
def Obligations.ResetIsSound : Prop :=
  Sound State.reset ∧ ∀ (p g : Bool) (s t : State), exec (.powerOnReset p g) s = .next t → Sound t

/-- R5, R6, R16, R56, R82, R141, R144, R172: every step keeps every bounded store within its room. R49, R50,
R124, R180: every step keeps the parameters within the ranges of a SETUP, and every settle end that has not
passed ahead of controller time by at most 255 units. -/
def Obligations.EveryStepKeepsTheRoom : Prop :=
  (∀ s t : State, RoomKept s → step s = .next t → RoomKept t) ∧
  ∀ s t : State, SetupFits s → SettleStands s → step s = .next t → SetupFits t ∧ SettleStands t

/-- R45, R46, R47, R51, R52, R54, R56, R59, R60, R82, R83: every step keeps the pool and the slot lists in
agreement, with one SHOWING task per list that stands first, waiting tasks by urgency, and every record's
quantities and optional fields as its state says: expired exactly when the remaining time is 0, and a done
hold of 1 to 25,500 units exactly while DONE. -/
def Obligations.EveryStepKeepsTheLists : Prop :=
  ∀ s t : State, ListsStand s → (∀ x ∈ s.pool, RecordFits x) → SetupFits s → step s = .next t →
    ListsStand t ∧ ∀ x ∈ t.pool, RecordFits x

/-- R20, R23, R30 to R34, R41: every step keeps the range table as loads leave it, with disjoint spans within
channels 0 to 63, and every channel whose list is not empty in the span of some BLOCK entry. -/
def Obligations.EveryStepKeepsTheSpans : Prop :=
  ∀ s t : State, RangesStand s.ranges → ListsHaveOwners s → step s = .next t →
    RangesStand t.ranges ∧ ListsHaveOwners t

/-- R86, R98, R119, R140, R143, R148, R151: every step keeps presence, capabilities, content, key histories,
probation and the exchange in flight in agreement, and no SHOW ever finds a PRESENT channel without
capabilities. -/
def Obligations.EveryStepKeepsTheBus : Prop :=
  (∀ s t : State, BusStand s → step s = .next t → BusStand t) ∧
  ∀ (s : State) (c : Instr), BusStand s → exec c s ≠ .fault .capsAbsent

/-- R2, R17, R160, R164, R168: every step keeps the BEACON, DNO and UPO lines, the guard's place in the hold
set and the lamp test true to the rest of the state. -/
def Obligations.EveryStepKeepsTheLines : Prop :=
  ∀ s t : State, ListsStand s → BusStand s → BeaconTrue s → TerminalQuiet s → LinesMatch s → GuardStands s →
    TestStands s → step s = .next t →
    BeaconTrue t ∧ TerminalQuiet t ∧ LinesMatch t ∧ GuardStands t ∧ TestStands t
end

