-- ==== Sys2Proof/Laws/State.lean ====
section
/-! SUPPORT. One lemma per field and shared update: the fields an operation of Machine/Ops.lean leaves
alone. No later proof unfolds an operation to see that. -/

namespace Sys2Proof.Machine

variable (s : State)

/-! ### record changes queue -/

@[simp] theorem record_pending (b : ReportBody) : (record b s).pending = s.pending := rfl
@[simp] theorem record_downBuf (b : ReportBody) : (record b s).downBuf = s.downBuf := rfl
@[simp] theorem record_upBuf (b : ReportBody) : (record b s).upBuf = s.upBuf := rfl
@[simp] theorem record_dno (b : ReportBody) : (record b s).dno = s.dno := rfl
@[simp] theorem record_breakWait (b : ReportBody) : (record b s).breakWait = s.breakWait := rfl
@[simp] theorem record_upo (b : ReportBody) : (record b s).upo = s.upo := rfl
@[simp] theorem record_lastSource (b : ReportBody) : (record b s).lastSource = s.lastSource := rfl
@[simp] theorem record_segNum (b : ReportBody) : (record b s).segNum = s.segNum := rfl
@[simp] theorem record_terminal (b : ReportBody) : (record b s).terminal = s.terminal := rfl
@[simp] theorem record_dnoRdy (b : ReportBody) : (record b s).dnoRdy = s.dnoRdy := rfl
@[simp] theorem record_upoRdy (b : ReportBody) : (record b s).upoRdy = s.upoRdy := rfl
@[simp] theorem record_downCheck (b : ReportBody) : (record b s).downCheck = s.downCheck := rfl
@[simp] theorem record_downOverrun (b : ReportBody) : (record b s).downOverrun = s.downOverrun := rfl
@[simp] theorem record_upCheck (b : ReportBody) : (record b s).upCheck = s.upCheck := rfl
@[simp] theorem record_upOverrun (b : ReportBody) : (record b s).upOverrun = s.upOverrun := rfl
@[simp] theorem record_ranges (b : ReportBody) : (record b s).ranges = s.ranges := rfl
@[simp] theorem record_pool (b : ReportBody) : (record b s).pool = s.pool := rfl
@[simp] theorem record_slots (b : ReportBody) : (record b s).slots = s.slots := rfl
@[simp] theorem record_lanes (b : ReportBody) : (record b s).lanes = s.lanes := rfl
@[simp] theorem record_disp (b : ReportBody) : (record b s).disp = s.disp := rfl
@[simp] theorem record_bus (b : ReportBody) : (record b s).bus = s.bus := rfl
@[simp] theorem record_cursor (b : ReportBody) : (record b s).cursor = s.cursor := rfl
@[simp] theorem record_inventory (b : ReportBody) : (record b s).inventory = s.inventory := rfl
@[simp] theorem record_exchange (b : ReportBody) : (record b s).exchange = s.exchange := rfl
@[simp] theorem record_request (b : ReportBody) : (record b s).request = s.request := rfl
@[simp] theorem record_batchLeft (b : ReportBody) : (record b s).batchLeft = s.batchLeft := rfl
@[simp] theorem record_withheld (b : ReportBody) : (record b s).withheld = s.withheld := rfl
@[simp] theorem record_head (b : ReportBody) : (record b s).head = s.head := rfl
@[simp] theorem record_guard (b : ReportBody) : (record b s).guard = s.guard := rfl
@[simp] theorem record_guardLine (b : ReportBody) : (record b s).guardLine = s.guardLine := rfl
@[simp] theorem record_guardTimer (b : ReportBody) : (record b s).guardTimer = s.guardTimer := rfl
@[simp] theorem record_test (b : ReportBody) : (record b s).test = s.test := rfl
@[simp] theorem record_beaconEnable (b : ReportBody) : (record b s).beaconEnable = s.beaconEnable := rfl
@[simp] theorem record_beacon (b : ReportBody) : (record b s).beacon = s.beacon := rfl
@[simp] theorem record_ctrl (b : ReportBody) : (record b s).ctrl = s.ctrl := rfl
@[simp] theorem record_settleMs (b : ReportBody) : (record b s).settleMs = s.settleMs := rfl
@[simp] theorem record_doneHoldS (b : ReportBody) : (record b s).doneHoldS = s.doneHoldS := rfl
@[simp] theorem record_probationS (b : ReportBody) : (record b s).probationS = s.probationS := rfl
@[simp] theorem record_guardSteps (b : ReportBody) : (record b s).guardSteps = s.guardSteps := rfl
@[simp] theorem record_time (b : ReportBody) : (record b s).time = s.time := rfl
@[simp] theorem record_lapsing (b : ReportBody) : (record b s).lapsing = s.lapsing := rfl

/-! ### offer changes queue, withheld -/

@[simp] theorem offer_pending (b : ReportBody) : (offer b s).pending = s.pending := by unfold offer; split <;> rfl
@[simp] theorem offer_downBuf (b : ReportBody) : (offer b s).downBuf = s.downBuf := by unfold offer; split <;> rfl
@[simp] theorem offer_upBuf (b : ReportBody) : (offer b s).upBuf = s.upBuf := by unfold offer; split <;> rfl
@[simp] theorem offer_dno (b : ReportBody) : (offer b s).dno = s.dno := by unfold offer; split <;> rfl
@[simp] theorem offer_breakWait (b : ReportBody) : (offer b s).breakWait = s.breakWait := by unfold offer; split <;> rfl
@[simp] theorem offer_upo (b : ReportBody) : (offer b s).upo = s.upo := by unfold offer; split <;> rfl
@[simp] theorem offer_lastSource (b : ReportBody) : (offer b s).lastSource = s.lastSource := by unfold offer; split <;> rfl
@[simp] theorem offer_segNum (b : ReportBody) : (offer b s).segNum = s.segNum := by unfold offer; split <;> rfl
@[simp] theorem offer_terminal (b : ReportBody) : (offer b s).terminal = s.terminal := by unfold offer; split <;> rfl
@[simp] theorem offer_dnoRdy (b : ReportBody) : (offer b s).dnoRdy = s.dnoRdy := by unfold offer; split <;> rfl
@[simp] theorem offer_upoRdy (b : ReportBody) : (offer b s).upoRdy = s.upoRdy := by unfold offer; split <;> rfl
@[simp] theorem offer_downCheck (b : ReportBody) : (offer b s).downCheck = s.downCheck := by unfold offer; split <;> rfl
@[simp] theorem offer_downOverrun (b : ReportBody) : (offer b s).downOverrun = s.downOverrun := by unfold offer; split <;> rfl
@[simp] theorem offer_upCheck (b : ReportBody) : (offer b s).upCheck = s.upCheck := by unfold offer; split <;> rfl
@[simp] theorem offer_upOverrun (b : ReportBody) : (offer b s).upOverrun = s.upOverrun := by unfold offer; split <;> rfl
@[simp] theorem offer_ranges (b : ReportBody) : (offer b s).ranges = s.ranges := by unfold offer; split <;> rfl
@[simp] theorem offer_pool (b : ReportBody) : (offer b s).pool = s.pool := by unfold offer; split <;> rfl
@[simp] theorem offer_slots (b : ReportBody) : (offer b s).slots = s.slots := by unfold offer; split <;> rfl
@[simp] theorem offer_lanes (b : ReportBody) : (offer b s).lanes = s.lanes := by unfold offer; split <;> rfl
@[simp] theorem offer_disp (b : ReportBody) : (offer b s).disp = s.disp := by unfold offer; split <;> rfl
@[simp] theorem offer_bus (b : ReportBody) : (offer b s).bus = s.bus := by unfold offer; split <;> rfl
@[simp] theorem offer_cursor (b : ReportBody) : (offer b s).cursor = s.cursor := by unfold offer; split <;> rfl
@[simp] theorem offer_inventory (b : ReportBody) : (offer b s).inventory = s.inventory := by unfold offer; split <;> rfl
@[simp] theorem offer_exchange (b : ReportBody) : (offer b s).exchange = s.exchange := by unfold offer; split <;> rfl
@[simp] theorem offer_request (b : ReportBody) : (offer b s).request = s.request := by unfold offer; split <;> rfl
@[simp] theorem offer_batchLeft (b : ReportBody) : (offer b s).batchLeft = s.batchLeft := by unfold offer; split <;> rfl
@[simp] theorem offer_head (b : ReportBody) : (offer b s).head = s.head := by unfold offer; split <;> rfl
@[simp] theorem offer_guard (b : ReportBody) : (offer b s).guard = s.guard := by unfold offer; split <;> rfl
@[simp] theorem offer_guardLine (b : ReportBody) : (offer b s).guardLine = s.guardLine := by unfold offer; split <;> rfl
@[simp] theorem offer_guardTimer (b : ReportBody) : (offer b s).guardTimer = s.guardTimer := by unfold offer; split <;> rfl
@[simp] theorem offer_test (b : ReportBody) : (offer b s).test = s.test := by unfold offer; split <;> rfl
@[simp] theorem offer_beaconEnable (b : ReportBody) : (offer b s).beaconEnable = s.beaconEnable := by unfold offer; split <;> rfl
@[simp] theorem offer_beacon (b : ReportBody) : (offer b s).beacon = s.beacon := by unfold offer; split <;> rfl
@[simp] theorem offer_ctrl (b : ReportBody) : (offer b s).ctrl = s.ctrl := by unfold offer; split <;> rfl
@[simp] theorem offer_settleMs (b : ReportBody) : (offer b s).settleMs = s.settleMs := by unfold offer; split <;> rfl
@[simp] theorem offer_doneHoldS (b : ReportBody) : (offer b s).doneHoldS = s.doneHoldS := by unfold offer; split <;> rfl
@[simp] theorem offer_probationS (b : ReportBody) : (offer b s).probationS = s.probationS := by unfold offer; split <;> rfl
@[simp] theorem offer_guardSteps (b : ReportBody) : (offer b s).guardSteps = s.guardSteps := by unfold offer; split <;> rfl
@[simp] theorem offer_time (b : ReportBody) : (offer b s).time = s.time := by unfold offer; split <;> rfl
@[simp] theorem offer_lapsing (b : ReportBody) : (offer b s).lapsing = s.lapsing := by unfold offer; split <;> rfl

/-! ### relayDown changes downBuf -/

@[simp] theorem relayDown_pending (f : Frame) : (relayDown f s).pending = s.pending := by unfold relayDown; split <;> rfl
@[simp] theorem relayDown_upBuf (f : Frame) : (relayDown f s).upBuf = s.upBuf := by unfold relayDown; split <;> rfl
@[simp] theorem relayDown_dno (f : Frame) : (relayDown f s).dno = s.dno := by unfold relayDown; split <;> rfl
@[simp] theorem relayDown_breakWait (f : Frame) : (relayDown f s).breakWait = s.breakWait := by unfold relayDown; split <;> rfl
@[simp] theorem relayDown_upo (f : Frame) : (relayDown f s).upo = s.upo := by unfold relayDown; split <;> rfl
@[simp] theorem relayDown_lastSource (f : Frame) : (relayDown f s).lastSource = s.lastSource := by unfold relayDown; split <;> rfl
@[simp] theorem relayDown_segNum (f : Frame) : (relayDown f s).segNum = s.segNum := by unfold relayDown; split <;> rfl
@[simp] theorem relayDown_terminal (f : Frame) : (relayDown f s).terminal = s.terminal := by unfold relayDown; split <;> rfl
@[simp] theorem relayDown_dnoRdy (f : Frame) : (relayDown f s).dnoRdy = s.dnoRdy := by unfold relayDown; split <;> rfl
@[simp] theorem relayDown_upoRdy (f : Frame) : (relayDown f s).upoRdy = s.upoRdy := by unfold relayDown; split <;> rfl
@[simp] theorem relayDown_downCheck (f : Frame) : (relayDown f s).downCheck = s.downCheck := by unfold relayDown; split <;> rfl
@[simp] theorem relayDown_downOverrun (f : Frame) : (relayDown f s).downOverrun = s.downOverrun := by unfold relayDown; split <;> rfl
@[simp] theorem relayDown_upCheck (f : Frame) : (relayDown f s).upCheck = s.upCheck := by unfold relayDown; split <;> rfl
@[simp] theorem relayDown_upOverrun (f : Frame) : (relayDown f s).upOverrun = s.upOverrun := by unfold relayDown; split <;> rfl
@[simp] theorem relayDown_ranges (f : Frame) : (relayDown f s).ranges = s.ranges := by unfold relayDown; split <;> rfl
@[simp] theorem relayDown_pool (f : Frame) : (relayDown f s).pool = s.pool := by unfold relayDown; split <;> rfl
@[simp] theorem relayDown_slots (f : Frame) : (relayDown f s).slots = s.slots := by unfold relayDown; split <;> rfl
@[simp] theorem relayDown_lanes (f : Frame) : (relayDown f s).lanes = s.lanes := by unfold relayDown; split <;> rfl
@[simp] theorem relayDown_disp (f : Frame) : (relayDown f s).disp = s.disp := by unfold relayDown; split <;> rfl
@[simp] theorem relayDown_bus (f : Frame) : (relayDown f s).bus = s.bus := by unfold relayDown; split <;> rfl
@[simp] theorem relayDown_cursor (f : Frame) : (relayDown f s).cursor = s.cursor := by unfold relayDown; split <;> rfl
@[simp] theorem relayDown_inventory (f : Frame) : (relayDown f s).inventory = s.inventory := by unfold relayDown; split <;> rfl
@[simp] theorem relayDown_exchange (f : Frame) : (relayDown f s).exchange = s.exchange := by unfold relayDown; split <;> rfl
@[simp] theorem relayDown_request (f : Frame) : (relayDown f s).request = s.request := by unfold relayDown; split <;> rfl
@[simp] theorem relayDown_batchLeft (f : Frame) : (relayDown f s).batchLeft = s.batchLeft := by unfold relayDown; split <;> rfl
@[simp] theorem relayDown_queue (f : Frame) : (relayDown f s).queue = s.queue := by unfold relayDown; split <;> rfl
@[simp] theorem relayDown_withheld (f : Frame) : (relayDown f s).withheld = s.withheld := by unfold relayDown; split <;> rfl
@[simp] theorem relayDown_head (f : Frame) : (relayDown f s).head = s.head := by unfold relayDown; split <;> rfl
@[simp] theorem relayDown_guard (f : Frame) : (relayDown f s).guard = s.guard := by unfold relayDown; split <;> rfl
@[simp] theorem relayDown_guardLine (f : Frame) : (relayDown f s).guardLine = s.guardLine := by unfold relayDown; split <;> rfl
@[simp] theorem relayDown_guardTimer (f : Frame) : (relayDown f s).guardTimer = s.guardTimer := by unfold relayDown; split <;> rfl
@[simp] theorem relayDown_test (f : Frame) : (relayDown f s).test = s.test := by unfold relayDown; split <;> rfl
@[simp] theorem relayDown_beaconEnable (f : Frame) : (relayDown f s).beaconEnable = s.beaconEnable := by unfold relayDown; split <;> rfl
@[simp] theorem relayDown_beacon (f : Frame) : (relayDown f s).beacon = s.beacon := by unfold relayDown; split <;> rfl
@[simp] theorem relayDown_ctrl (f : Frame) : (relayDown f s).ctrl = s.ctrl := by unfold relayDown; split <;> rfl
@[simp] theorem relayDown_settleMs (f : Frame) : (relayDown f s).settleMs = s.settleMs := by unfold relayDown; split <;> rfl
@[simp] theorem relayDown_doneHoldS (f : Frame) : (relayDown f s).doneHoldS = s.doneHoldS := by unfold relayDown; split <;> rfl
@[simp] theorem relayDown_probationS (f : Frame) : (relayDown f s).probationS = s.probationS := by unfold relayDown; split <;> rfl
@[simp] theorem relayDown_guardSteps (f : Frame) : (relayDown f s).guardSteps = s.guardSteps := by unfold relayDown; split <;> rfl
@[simp] theorem relayDown_time (f : Frame) : (relayDown f s).time = s.time := by unfold relayDown; split <;> rfl
@[simp] theorem relayDown_lapsing (f : Frame) : (relayDown f s).lapsing = s.lapsing := by unfold relayDown; split <;> rfl

/-! ### onDisp changes disp -/

@[simp] theorem onDisp_pending (c : Channel) (f : DisplayRec → DisplayRec) : (onDisp c f s).pending = s.pending := rfl
@[simp] theorem onDisp_downBuf (c : Channel) (f : DisplayRec → DisplayRec) : (onDisp c f s).downBuf = s.downBuf := rfl
@[simp] theorem onDisp_upBuf (c : Channel) (f : DisplayRec → DisplayRec) : (onDisp c f s).upBuf = s.upBuf := rfl
@[simp] theorem onDisp_dno (c : Channel) (f : DisplayRec → DisplayRec) : (onDisp c f s).dno = s.dno := rfl
@[simp] theorem onDisp_breakWait (c : Channel) (f : DisplayRec → DisplayRec) : (onDisp c f s).breakWait = s.breakWait := rfl
@[simp] theorem onDisp_upo (c : Channel) (f : DisplayRec → DisplayRec) : (onDisp c f s).upo = s.upo := rfl
@[simp] theorem onDisp_lastSource (c : Channel) (f : DisplayRec → DisplayRec) : (onDisp c f s).lastSource = s.lastSource := rfl
@[simp] theorem onDisp_segNum (c : Channel) (f : DisplayRec → DisplayRec) : (onDisp c f s).segNum = s.segNum := rfl
@[simp] theorem onDisp_terminal (c : Channel) (f : DisplayRec → DisplayRec) : (onDisp c f s).terminal = s.terminal := rfl
@[simp] theorem onDisp_dnoRdy (c : Channel) (f : DisplayRec → DisplayRec) : (onDisp c f s).dnoRdy = s.dnoRdy := rfl
@[simp] theorem onDisp_upoRdy (c : Channel) (f : DisplayRec → DisplayRec) : (onDisp c f s).upoRdy = s.upoRdy := rfl
@[simp] theorem onDisp_downCheck (c : Channel) (f : DisplayRec → DisplayRec) : (onDisp c f s).downCheck = s.downCheck := rfl
@[simp] theorem onDisp_downOverrun (c : Channel) (f : DisplayRec → DisplayRec) : (onDisp c f s).downOverrun = s.downOverrun := rfl
@[simp] theorem onDisp_upCheck (c : Channel) (f : DisplayRec → DisplayRec) : (onDisp c f s).upCheck = s.upCheck := rfl
@[simp] theorem onDisp_upOverrun (c : Channel) (f : DisplayRec → DisplayRec) : (onDisp c f s).upOverrun = s.upOverrun := rfl
@[simp] theorem onDisp_ranges (c : Channel) (f : DisplayRec → DisplayRec) : (onDisp c f s).ranges = s.ranges := rfl
@[simp] theorem onDisp_pool (c : Channel) (f : DisplayRec → DisplayRec) : (onDisp c f s).pool = s.pool := rfl
@[simp] theorem onDisp_slots (c : Channel) (f : DisplayRec → DisplayRec) : (onDisp c f s).slots = s.slots := rfl
@[simp] theorem onDisp_lanes (c : Channel) (f : DisplayRec → DisplayRec) : (onDisp c f s).lanes = s.lanes := rfl
@[simp] theorem onDisp_bus (c : Channel) (f : DisplayRec → DisplayRec) : (onDisp c f s).bus = s.bus := rfl
@[simp] theorem onDisp_cursor (c : Channel) (f : DisplayRec → DisplayRec) : (onDisp c f s).cursor = s.cursor := rfl
@[simp] theorem onDisp_inventory (c : Channel) (f : DisplayRec → DisplayRec) : (onDisp c f s).inventory = s.inventory := rfl
@[simp] theorem onDisp_exchange (c : Channel) (f : DisplayRec → DisplayRec) : (onDisp c f s).exchange = s.exchange := rfl
@[simp] theorem onDisp_request (c : Channel) (f : DisplayRec → DisplayRec) : (onDisp c f s).request = s.request := rfl
@[simp] theorem onDisp_batchLeft (c : Channel) (f : DisplayRec → DisplayRec) : (onDisp c f s).batchLeft = s.batchLeft := rfl
@[simp] theorem onDisp_queue (c : Channel) (f : DisplayRec → DisplayRec) : (onDisp c f s).queue = s.queue := rfl
@[simp] theorem onDisp_withheld (c : Channel) (f : DisplayRec → DisplayRec) : (onDisp c f s).withheld = s.withheld := rfl
@[simp] theorem onDisp_head (c : Channel) (f : DisplayRec → DisplayRec) : (onDisp c f s).head = s.head := rfl
@[simp] theorem onDisp_guard (c : Channel) (f : DisplayRec → DisplayRec) : (onDisp c f s).guard = s.guard := rfl
@[simp] theorem onDisp_guardLine (c : Channel) (f : DisplayRec → DisplayRec) : (onDisp c f s).guardLine = s.guardLine := rfl
@[simp] theorem onDisp_guardTimer (c : Channel) (f : DisplayRec → DisplayRec) : (onDisp c f s).guardTimer = s.guardTimer := rfl
@[simp] theorem onDisp_test (c : Channel) (f : DisplayRec → DisplayRec) : (onDisp c f s).test = s.test := rfl
@[simp] theorem onDisp_beaconEnable (c : Channel) (f : DisplayRec → DisplayRec) : (onDisp c f s).beaconEnable = s.beaconEnable := rfl
@[simp] theorem onDisp_beacon (c : Channel) (f : DisplayRec → DisplayRec) : (onDisp c f s).beacon = s.beacon := rfl
@[simp] theorem onDisp_ctrl (c : Channel) (f : DisplayRec → DisplayRec) : (onDisp c f s).ctrl = s.ctrl := rfl
@[simp] theorem onDisp_settleMs (c : Channel) (f : DisplayRec → DisplayRec) : (onDisp c f s).settleMs = s.settleMs := rfl
@[simp] theorem onDisp_doneHoldS (c : Channel) (f : DisplayRec → DisplayRec) : (onDisp c f s).doneHoldS = s.doneHoldS := rfl
@[simp] theorem onDisp_probationS (c : Channel) (f : DisplayRec → DisplayRec) : (onDisp c f s).probationS = s.probationS := rfl
@[simp] theorem onDisp_guardSteps (c : Channel) (f : DisplayRec → DisplayRec) : (onDisp c f s).guardSteps = s.guardSteps := rfl
@[simp] theorem onDisp_time (c : Channel) (f : DisplayRec → DisplayRec) : (onDisp c f s).time = s.time := rfl
@[simp] theorem onDisp_lapsing (c : Channel) (f : DisplayRec → DisplayRec) : (onDisp c f s).lapsing = s.lapsing := rfl

/-! ### onDisps changes disp -/

@[simp] theorem onDisps_pending (p : Channel → Bool) (f : DisplayRec → DisplayRec) : (onDisps p f s).pending = s.pending := rfl
@[simp] theorem onDisps_downBuf (p : Channel → Bool) (f : DisplayRec → DisplayRec) : (onDisps p f s).downBuf = s.downBuf := rfl
@[simp] theorem onDisps_upBuf (p : Channel → Bool) (f : DisplayRec → DisplayRec) : (onDisps p f s).upBuf = s.upBuf := rfl
@[simp] theorem onDisps_dno (p : Channel → Bool) (f : DisplayRec → DisplayRec) : (onDisps p f s).dno = s.dno := rfl
@[simp] theorem onDisps_breakWait (p : Channel → Bool) (f : DisplayRec → DisplayRec) : (onDisps p f s).breakWait = s.breakWait := rfl
@[simp] theorem onDisps_upo (p : Channel → Bool) (f : DisplayRec → DisplayRec) : (onDisps p f s).upo = s.upo := rfl
@[simp] theorem onDisps_lastSource (p : Channel → Bool) (f : DisplayRec → DisplayRec) : (onDisps p f s).lastSource = s.lastSource := rfl
@[simp] theorem onDisps_segNum (p : Channel → Bool) (f : DisplayRec → DisplayRec) : (onDisps p f s).segNum = s.segNum := rfl
@[simp] theorem onDisps_terminal (p : Channel → Bool) (f : DisplayRec → DisplayRec) : (onDisps p f s).terminal = s.terminal := rfl
@[simp] theorem onDisps_dnoRdy (p : Channel → Bool) (f : DisplayRec → DisplayRec) : (onDisps p f s).dnoRdy = s.dnoRdy := rfl
@[simp] theorem onDisps_upoRdy (p : Channel → Bool) (f : DisplayRec → DisplayRec) : (onDisps p f s).upoRdy = s.upoRdy := rfl
@[simp] theorem onDisps_downCheck (p : Channel → Bool) (f : DisplayRec → DisplayRec) : (onDisps p f s).downCheck = s.downCheck := rfl
@[simp] theorem onDisps_downOverrun (p : Channel → Bool) (f : DisplayRec → DisplayRec) : (onDisps p f s).downOverrun = s.downOverrun := rfl
@[simp] theorem onDisps_upCheck (p : Channel → Bool) (f : DisplayRec → DisplayRec) : (onDisps p f s).upCheck = s.upCheck := rfl
@[simp] theorem onDisps_upOverrun (p : Channel → Bool) (f : DisplayRec → DisplayRec) : (onDisps p f s).upOverrun = s.upOverrun := rfl
@[simp] theorem onDisps_ranges (p : Channel → Bool) (f : DisplayRec → DisplayRec) : (onDisps p f s).ranges = s.ranges := rfl
@[simp] theorem onDisps_pool (p : Channel → Bool) (f : DisplayRec → DisplayRec) : (onDisps p f s).pool = s.pool := rfl
@[simp] theorem onDisps_slots (p : Channel → Bool) (f : DisplayRec → DisplayRec) : (onDisps p f s).slots = s.slots := rfl
@[simp] theorem onDisps_lanes (p : Channel → Bool) (f : DisplayRec → DisplayRec) : (onDisps p f s).lanes = s.lanes := rfl
@[simp] theorem onDisps_bus (p : Channel → Bool) (f : DisplayRec → DisplayRec) : (onDisps p f s).bus = s.bus := rfl
@[simp] theorem onDisps_cursor (p : Channel → Bool) (f : DisplayRec → DisplayRec) : (onDisps p f s).cursor = s.cursor := rfl
@[simp] theorem onDisps_inventory (p : Channel → Bool) (f : DisplayRec → DisplayRec) : (onDisps p f s).inventory = s.inventory := rfl
@[simp] theorem onDisps_exchange (p : Channel → Bool) (f : DisplayRec → DisplayRec) : (onDisps p f s).exchange = s.exchange := rfl
@[simp] theorem onDisps_request (p : Channel → Bool) (f : DisplayRec → DisplayRec) : (onDisps p f s).request = s.request := rfl
@[simp] theorem onDisps_batchLeft (p : Channel → Bool) (f : DisplayRec → DisplayRec) : (onDisps p f s).batchLeft = s.batchLeft := rfl
@[simp] theorem onDisps_queue (p : Channel → Bool) (f : DisplayRec → DisplayRec) : (onDisps p f s).queue = s.queue := rfl
@[simp] theorem onDisps_withheld (p : Channel → Bool) (f : DisplayRec → DisplayRec) : (onDisps p f s).withheld = s.withheld := rfl
@[simp] theorem onDisps_head (p : Channel → Bool) (f : DisplayRec → DisplayRec) : (onDisps p f s).head = s.head := rfl
@[simp] theorem onDisps_guard (p : Channel → Bool) (f : DisplayRec → DisplayRec) : (onDisps p f s).guard = s.guard := rfl
@[simp] theorem onDisps_guardLine (p : Channel → Bool) (f : DisplayRec → DisplayRec) : (onDisps p f s).guardLine = s.guardLine := rfl
@[simp] theorem onDisps_guardTimer (p : Channel → Bool) (f : DisplayRec → DisplayRec) : (onDisps p f s).guardTimer = s.guardTimer := rfl
@[simp] theorem onDisps_test (p : Channel → Bool) (f : DisplayRec → DisplayRec) : (onDisps p f s).test = s.test := rfl
@[simp] theorem onDisps_beaconEnable (p : Channel → Bool) (f : DisplayRec → DisplayRec) : (onDisps p f s).beaconEnable = s.beaconEnable := rfl
@[simp] theorem onDisps_beacon (p : Channel → Bool) (f : DisplayRec → DisplayRec) : (onDisps p f s).beacon = s.beacon := rfl
@[simp] theorem onDisps_ctrl (p : Channel → Bool) (f : DisplayRec → DisplayRec) : (onDisps p f s).ctrl = s.ctrl := rfl
@[simp] theorem onDisps_settleMs (p : Channel → Bool) (f : DisplayRec → DisplayRec) : (onDisps p f s).settleMs = s.settleMs := rfl
@[simp] theorem onDisps_doneHoldS (p : Channel → Bool) (f : DisplayRec → DisplayRec) : (onDisps p f s).doneHoldS = s.doneHoldS := rfl
@[simp] theorem onDisps_probationS (p : Channel → Bool) (f : DisplayRec → DisplayRec) : (onDisps p f s).probationS = s.probationS := rfl
@[simp] theorem onDisps_guardSteps (p : Channel → Bool) (f : DisplayRec → DisplayRec) : (onDisps p f s).guardSteps = s.guardSteps := rfl
@[simp] theorem onDisps_time (p : Channel → Bool) (f : DisplayRec → DisplayRec) : (onDisps p f s).time = s.time := rfl
@[simp] theorem onDisps_lapsing (p : Channel → Bool) (f : DisplayRec → DisplayRec) : (onDisps p f s).lapsing = s.lapsing := rfl

/-! ### onBus changes bus -/

@[simp] theorem onBus_pending (c : Channel) (f : BusRec → BusRec) : (onBus c f s).pending = s.pending := rfl
@[simp] theorem onBus_downBuf (c : Channel) (f : BusRec → BusRec) : (onBus c f s).downBuf = s.downBuf := rfl
@[simp] theorem onBus_upBuf (c : Channel) (f : BusRec → BusRec) : (onBus c f s).upBuf = s.upBuf := rfl
@[simp] theorem onBus_dno (c : Channel) (f : BusRec → BusRec) : (onBus c f s).dno = s.dno := rfl
@[simp] theorem onBus_breakWait (c : Channel) (f : BusRec → BusRec) : (onBus c f s).breakWait = s.breakWait := rfl
@[simp] theorem onBus_upo (c : Channel) (f : BusRec → BusRec) : (onBus c f s).upo = s.upo := rfl
@[simp] theorem onBus_lastSource (c : Channel) (f : BusRec → BusRec) : (onBus c f s).lastSource = s.lastSource := rfl
@[simp] theorem onBus_segNum (c : Channel) (f : BusRec → BusRec) : (onBus c f s).segNum = s.segNum := rfl
@[simp] theorem onBus_terminal (c : Channel) (f : BusRec → BusRec) : (onBus c f s).terminal = s.terminal := rfl
@[simp] theorem onBus_dnoRdy (c : Channel) (f : BusRec → BusRec) : (onBus c f s).dnoRdy = s.dnoRdy := rfl
@[simp] theorem onBus_upoRdy (c : Channel) (f : BusRec → BusRec) : (onBus c f s).upoRdy = s.upoRdy := rfl
@[simp] theorem onBus_downCheck (c : Channel) (f : BusRec → BusRec) : (onBus c f s).downCheck = s.downCheck := rfl
@[simp] theorem onBus_downOverrun (c : Channel) (f : BusRec → BusRec) : (onBus c f s).downOverrun = s.downOverrun := rfl
@[simp] theorem onBus_upCheck (c : Channel) (f : BusRec → BusRec) : (onBus c f s).upCheck = s.upCheck := rfl
@[simp] theorem onBus_upOverrun (c : Channel) (f : BusRec → BusRec) : (onBus c f s).upOverrun = s.upOverrun := rfl
@[simp] theorem onBus_ranges (c : Channel) (f : BusRec → BusRec) : (onBus c f s).ranges = s.ranges := rfl
@[simp] theorem onBus_pool (c : Channel) (f : BusRec → BusRec) : (onBus c f s).pool = s.pool := rfl
@[simp] theorem onBus_slots (c : Channel) (f : BusRec → BusRec) : (onBus c f s).slots = s.slots := rfl
@[simp] theorem onBus_lanes (c : Channel) (f : BusRec → BusRec) : (onBus c f s).lanes = s.lanes := rfl
@[simp] theorem onBus_disp (c : Channel) (f : BusRec → BusRec) : (onBus c f s).disp = s.disp := rfl
@[simp] theorem onBus_cursor (c : Channel) (f : BusRec → BusRec) : (onBus c f s).cursor = s.cursor := rfl
@[simp] theorem onBus_inventory (c : Channel) (f : BusRec → BusRec) : (onBus c f s).inventory = s.inventory := rfl
@[simp] theorem onBus_exchange (c : Channel) (f : BusRec → BusRec) : (onBus c f s).exchange = s.exchange := rfl
@[simp] theorem onBus_request (c : Channel) (f : BusRec → BusRec) : (onBus c f s).request = s.request := rfl
@[simp] theorem onBus_batchLeft (c : Channel) (f : BusRec → BusRec) : (onBus c f s).batchLeft = s.batchLeft := rfl
@[simp] theorem onBus_queue (c : Channel) (f : BusRec → BusRec) : (onBus c f s).queue = s.queue := rfl
@[simp] theorem onBus_withheld (c : Channel) (f : BusRec → BusRec) : (onBus c f s).withheld = s.withheld := rfl
@[simp] theorem onBus_head (c : Channel) (f : BusRec → BusRec) : (onBus c f s).head = s.head := rfl
@[simp] theorem onBus_guard (c : Channel) (f : BusRec → BusRec) : (onBus c f s).guard = s.guard := rfl
@[simp] theorem onBus_guardLine (c : Channel) (f : BusRec → BusRec) : (onBus c f s).guardLine = s.guardLine := rfl
@[simp] theorem onBus_guardTimer (c : Channel) (f : BusRec → BusRec) : (onBus c f s).guardTimer = s.guardTimer := rfl
@[simp] theorem onBus_test (c : Channel) (f : BusRec → BusRec) : (onBus c f s).test = s.test := rfl
@[simp] theorem onBus_beaconEnable (c : Channel) (f : BusRec → BusRec) : (onBus c f s).beaconEnable = s.beaconEnable := rfl
@[simp] theorem onBus_beacon (c : Channel) (f : BusRec → BusRec) : (onBus c f s).beacon = s.beacon := rfl
@[simp] theorem onBus_ctrl (c : Channel) (f : BusRec → BusRec) : (onBus c f s).ctrl = s.ctrl := rfl
@[simp] theorem onBus_settleMs (c : Channel) (f : BusRec → BusRec) : (onBus c f s).settleMs = s.settleMs := rfl
@[simp] theorem onBus_doneHoldS (c : Channel) (f : BusRec → BusRec) : (onBus c f s).doneHoldS = s.doneHoldS := rfl
@[simp] theorem onBus_probationS (c : Channel) (f : BusRec → BusRec) : (onBus c f s).probationS = s.probationS := rfl
@[simp] theorem onBus_guardSteps (c : Channel) (f : BusRec → BusRec) : (onBus c f s).guardSteps = s.guardSteps := rfl
@[simp] theorem onBus_time (c : Channel) (f : BusRec → BusRec) : (onBus c f s).time = s.time := rfl
@[simp] theorem onBus_lapsing (c : Channel) (f : BusRec → BusRec) : (onBus c f s).lapsing = s.lapsing := rfl

/-! ### evalBeacon changes beacon -/

@[simp] theorem evalBeacon_pending : (evalBeacon s).pending = s.pending := rfl
@[simp] theorem evalBeacon_downBuf : (evalBeacon s).downBuf = s.downBuf := rfl
@[simp] theorem evalBeacon_upBuf : (evalBeacon s).upBuf = s.upBuf := rfl
@[simp] theorem evalBeacon_dno : (evalBeacon s).dno = s.dno := rfl
@[simp] theorem evalBeacon_breakWait : (evalBeacon s).breakWait = s.breakWait := rfl
@[simp] theorem evalBeacon_upo : (evalBeacon s).upo = s.upo := rfl
@[simp] theorem evalBeacon_lastSource : (evalBeacon s).lastSource = s.lastSource := rfl
@[simp] theorem evalBeacon_segNum : (evalBeacon s).segNum = s.segNum := rfl
@[simp] theorem evalBeacon_terminal : (evalBeacon s).terminal = s.terminal := rfl
@[simp] theorem evalBeacon_dnoRdy : (evalBeacon s).dnoRdy = s.dnoRdy := rfl
@[simp] theorem evalBeacon_upoRdy : (evalBeacon s).upoRdy = s.upoRdy := rfl
@[simp] theorem evalBeacon_downCheck : (evalBeacon s).downCheck = s.downCheck := rfl
@[simp] theorem evalBeacon_downOverrun : (evalBeacon s).downOverrun = s.downOverrun := rfl
@[simp] theorem evalBeacon_upCheck : (evalBeacon s).upCheck = s.upCheck := rfl
@[simp] theorem evalBeacon_upOverrun : (evalBeacon s).upOverrun = s.upOverrun := rfl
@[simp] theorem evalBeacon_ranges : (evalBeacon s).ranges = s.ranges := rfl
@[simp] theorem evalBeacon_pool : (evalBeacon s).pool = s.pool := rfl
@[simp] theorem evalBeacon_slots : (evalBeacon s).slots = s.slots := rfl
@[simp] theorem evalBeacon_lanes : (evalBeacon s).lanes = s.lanes := rfl
@[simp] theorem evalBeacon_disp : (evalBeacon s).disp = s.disp := rfl
@[simp] theorem evalBeacon_bus : (evalBeacon s).bus = s.bus := rfl
@[simp] theorem evalBeacon_cursor : (evalBeacon s).cursor = s.cursor := rfl
@[simp] theorem evalBeacon_inventory : (evalBeacon s).inventory = s.inventory := rfl
@[simp] theorem evalBeacon_exchange : (evalBeacon s).exchange = s.exchange := rfl
@[simp] theorem evalBeacon_request : (evalBeacon s).request = s.request := rfl
@[simp] theorem evalBeacon_batchLeft : (evalBeacon s).batchLeft = s.batchLeft := rfl
@[simp] theorem evalBeacon_queue : (evalBeacon s).queue = s.queue := rfl
@[simp] theorem evalBeacon_withheld : (evalBeacon s).withheld = s.withheld := rfl
@[simp] theorem evalBeacon_head : (evalBeacon s).head = s.head := rfl
@[simp] theorem evalBeacon_guard : (evalBeacon s).guard = s.guard := rfl
@[simp] theorem evalBeacon_guardLine : (evalBeacon s).guardLine = s.guardLine := rfl
@[simp] theorem evalBeacon_guardTimer : (evalBeacon s).guardTimer = s.guardTimer := rfl
@[simp] theorem evalBeacon_test : (evalBeacon s).test = s.test := rfl
@[simp] theorem evalBeacon_beaconEnable : (evalBeacon s).beaconEnable = s.beaconEnable := rfl
@[simp] theorem evalBeacon_ctrl : (evalBeacon s).ctrl = s.ctrl := rfl
@[simp] theorem evalBeacon_settleMs : (evalBeacon s).settleMs = s.settleMs := rfl
@[simp] theorem evalBeacon_doneHoldS : (evalBeacon s).doneHoldS = s.doneHoldS := rfl
@[simp] theorem evalBeacon_probationS : (evalBeacon s).probationS = s.probationS := rfl
@[simp] theorem evalBeacon_guardSteps : (evalBeacon s).guardSteps = s.guardSteps := rfl
@[simp] theorem evalBeacon_time : (evalBeacon s).time = s.time := rfl
@[simp] theorem evalBeacon_lapsing : (evalBeacon s).lapsing = s.lapsing := rfl

/-! ### restand changes pool, slots, disp, beacon -/

@[simp] theorem restand_pending (pool : List Task) (slots : Tab 64 (List Tag)) : (restand pool slots s).pending = s.pending := rfl
@[simp] theorem restand_downBuf (pool : List Task) (slots : Tab 64 (List Tag)) : (restand pool slots s).downBuf = s.downBuf := rfl
@[simp] theorem restand_upBuf (pool : List Task) (slots : Tab 64 (List Tag)) : (restand pool slots s).upBuf = s.upBuf := rfl
@[simp] theorem restand_dno (pool : List Task) (slots : Tab 64 (List Tag)) : (restand pool slots s).dno = s.dno := rfl
@[simp] theorem restand_breakWait (pool : List Task) (slots : Tab 64 (List Tag)) : (restand pool slots s).breakWait = s.breakWait := rfl
@[simp] theorem restand_upo (pool : List Task) (slots : Tab 64 (List Tag)) : (restand pool slots s).upo = s.upo := rfl
@[simp] theorem restand_lastSource (pool : List Task) (slots : Tab 64 (List Tag)) : (restand pool slots s).lastSource = s.lastSource := rfl
@[simp] theorem restand_segNum (pool : List Task) (slots : Tab 64 (List Tag)) : (restand pool slots s).segNum = s.segNum := rfl
@[simp] theorem restand_terminal (pool : List Task) (slots : Tab 64 (List Tag)) : (restand pool slots s).terminal = s.terminal := rfl
@[simp] theorem restand_dnoRdy (pool : List Task) (slots : Tab 64 (List Tag)) : (restand pool slots s).dnoRdy = s.dnoRdy := rfl
@[simp] theorem restand_upoRdy (pool : List Task) (slots : Tab 64 (List Tag)) : (restand pool slots s).upoRdy = s.upoRdy := rfl
@[simp] theorem restand_downCheck (pool : List Task) (slots : Tab 64 (List Tag)) : (restand pool slots s).downCheck = s.downCheck := rfl
@[simp] theorem restand_downOverrun (pool : List Task) (slots : Tab 64 (List Tag)) : (restand pool slots s).downOverrun = s.downOverrun := rfl
@[simp] theorem restand_upCheck (pool : List Task) (slots : Tab 64 (List Tag)) : (restand pool slots s).upCheck = s.upCheck := rfl
@[simp] theorem restand_upOverrun (pool : List Task) (slots : Tab 64 (List Tag)) : (restand pool slots s).upOverrun = s.upOverrun := rfl
@[simp] theorem restand_ranges (pool : List Task) (slots : Tab 64 (List Tag)) : (restand pool slots s).ranges = s.ranges := rfl
@[simp] theorem restand_lanes (pool : List Task) (slots : Tab 64 (List Tag)) : (restand pool slots s).lanes = s.lanes := rfl
@[simp] theorem restand_bus (pool : List Task) (slots : Tab 64 (List Tag)) : (restand pool slots s).bus = s.bus := rfl
@[simp] theorem restand_cursor (pool : List Task) (slots : Tab 64 (List Tag)) : (restand pool slots s).cursor = s.cursor := rfl
@[simp] theorem restand_inventory (pool : List Task) (slots : Tab 64 (List Tag)) : (restand pool slots s).inventory = s.inventory := rfl
@[simp] theorem restand_exchange (pool : List Task) (slots : Tab 64 (List Tag)) : (restand pool slots s).exchange = s.exchange := rfl
@[simp] theorem restand_request (pool : List Task) (slots : Tab 64 (List Tag)) : (restand pool slots s).request = s.request := rfl
@[simp] theorem restand_batchLeft (pool : List Task) (slots : Tab 64 (List Tag)) : (restand pool slots s).batchLeft = s.batchLeft := rfl
@[simp] theorem restand_queue (pool : List Task) (slots : Tab 64 (List Tag)) : (restand pool slots s).queue = s.queue := rfl
@[simp] theorem restand_withheld (pool : List Task) (slots : Tab 64 (List Tag)) : (restand pool slots s).withheld = s.withheld := rfl
@[simp] theorem restand_head (pool : List Task) (slots : Tab 64 (List Tag)) : (restand pool slots s).head = s.head := rfl
@[simp] theorem restand_guard (pool : List Task) (slots : Tab 64 (List Tag)) : (restand pool slots s).guard = s.guard := rfl
@[simp] theorem restand_guardLine (pool : List Task) (slots : Tab 64 (List Tag)) : (restand pool slots s).guardLine = s.guardLine := rfl
@[simp] theorem restand_guardTimer (pool : List Task) (slots : Tab 64 (List Tag)) : (restand pool slots s).guardTimer = s.guardTimer := rfl
@[simp] theorem restand_test (pool : List Task) (slots : Tab 64 (List Tag)) : (restand pool slots s).test = s.test := rfl
@[simp] theorem restand_beaconEnable (pool : List Task) (slots : Tab 64 (List Tag)) : (restand pool slots s).beaconEnable = s.beaconEnable := rfl
@[simp] theorem restand_ctrl (pool : List Task) (slots : Tab 64 (List Tag)) : (restand pool slots s).ctrl = s.ctrl := rfl
@[simp] theorem restand_settleMs (pool : List Task) (slots : Tab 64 (List Tag)) : (restand pool slots s).settleMs = s.settleMs := rfl
@[simp] theorem restand_doneHoldS (pool : List Task) (slots : Tab 64 (List Tag)) : (restand pool slots s).doneHoldS = s.doneHoldS := rfl
@[simp] theorem restand_probationS (pool : List Task) (slots : Tab 64 (List Tag)) : (restand pool slots s).probationS = s.probationS := rfl
@[simp] theorem restand_guardSteps (pool : List Task) (slots : Tab 64 (List Tag)) : (restand pool slots s).guardSteps = s.guardSteps := rfl
@[simp] theorem restand_time (pool : List Task) (slots : Tab 64 (List Tag)) : (restand pool slots s).time = s.time := rfl
@[simp] theorem restand_lapsing (pool : List Task) (slots : Tab 64 (List Tag)) : (restand pool slots s).lapsing = s.lapsing := rfl

/-! ### postTask changes pool, slots, disp, beacon -/

@[simp] theorem postTask_pending (x : Task) : (postTask x s).pending = s.pending := rfl
@[simp] theorem postTask_downBuf (x : Task) : (postTask x s).downBuf = s.downBuf := rfl
@[simp] theorem postTask_upBuf (x : Task) : (postTask x s).upBuf = s.upBuf := rfl
@[simp] theorem postTask_dno (x : Task) : (postTask x s).dno = s.dno := rfl
@[simp] theorem postTask_breakWait (x : Task) : (postTask x s).breakWait = s.breakWait := rfl
@[simp] theorem postTask_upo (x : Task) : (postTask x s).upo = s.upo := rfl
@[simp] theorem postTask_lastSource (x : Task) : (postTask x s).lastSource = s.lastSource := rfl
@[simp] theorem postTask_segNum (x : Task) : (postTask x s).segNum = s.segNum := rfl
@[simp] theorem postTask_terminal (x : Task) : (postTask x s).terminal = s.terminal := rfl
@[simp] theorem postTask_dnoRdy (x : Task) : (postTask x s).dnoRdy = s.dnoRdy := rfl
@[simp] theorem postTask_upoRdy (x : Task) : (postTask x s).upoRdy = s.upoRdy := rfl
@[simp] theorem postTask_downCheck (x : Task) : (postTask x s).downCheck = s.downCheck := rfl
@[simp] theorem postTask_downOverrun (x : Task) : (postTask x s).downOverrun = s.downOverrun := rfl
@[simp] theorem postTask_upCheck (x : Task) : (postTask x s).upCheck = s.upCheck := rfl
@[simp] theorem postTask_upOverrun (x : Task) : (postTask x s).upOverrun = s.upOverrun := rfl
@[simp] theorem postTask_ranges (x : Task) : (postTask x s).ranges = s.ranges := rfl
@[simp] theorem postTask_lanes (x : Task) : (postTask x s).lanes = s.lanes := rfl
@[simp] theorem postTask_bus (x : Task) : (postTask x s).bus = s.bus := rfl
@[simp] theorem postTask_cursor (x : Task) : (postTask x s).cursor = s.cursor := rfl
@[simp] theorem postTask_inventory (x : Task) : (postTask x s).inventory = s.inventory := rfl
@[simp] theorem postTask_exchange (x : Task) : (postTask x s).exchange = s.exchange := rfl
@[simp] theorem postTask_request (x : Task) : (postTask x s).request = s.request := rfl
@[simp] theorem postTask_batchLeft (x : Task) : (postTask x s).batchLeft = s.batchLeft := rfl
@[simp] theorem postTask_queue (x : Task) : (postTask x s).queue = s.queue := rfl
@[simp] theorem postTask_withheld (x : Task) : (postTask x s).withheld = s.withheld := rfl
@[simp] theorem postTask_head (x : Task) : (postTask x s).head = s.head := rfl
@[simp] theorem postTask_guard (x : Task) : (postTask x s).guard = s.guard := rfl
@[simp] theorem postTask_guardLine (x : Task) : (postTask x s).guardLine = s.guardLine := rfl
@[simp] theorem postTask_guardTimer (x : Task) : (postTask x s).guardTimer = s.guardTimer := rfl
@[simp] theorem postTask_test (x : Task) : (postTask x s).test = s.test := rfl
@[simp] theorem postTask_beaconEnable (x : Task) : (postTask x s).beaconEnable = s.beaconEnable := rfl
@[simp] theorem postTask_ctrl (x : Task) : (postTask x s).ctrl = s.ctrl := rfl
@[simp] theorem postTask_settleMs (x : Task) : (postTask x s).settleMs = s.settleMs := rfl
@[simp] theorem postTask_doneHoldS (x : Task) : (postTask x s).doneHoldS = s.doneHoldS := rfl
@[simp] theorem postTask_probationS (x : Task) : (postTask x s).probationS = s.probationS := rfl
@[simp] theorem postTask_guardSteps (x : Task) : (postTask x s).guardSteps = s.guardSteps := rfl
@[simp] theorem postTask_time (x : Task) : (postTask x s).time = s.time := rfl
@[simp] theorem postTask_lapsing (x : Task) : (postTask x s).lapsing = s.lapsing := rfl

/-! ### freeListed changes pool, slots, disp, beacon -/

@[simp] theorem freeListed_pending (p : Task → Bool) : (freeListed p s).pending = s.pending := rfl
@[simp] theorem freeListed_downBuf (p : Task → Bool) : (freeListed p s).downBuf = s.downBuf := rfl
@[simp] theorem freeListed_upBuf (p : Task → Bool) : (freeListed p s).upBuf = s.upBuf := rfl
@[simp] theorem freeListed_dno (p : Task → Bool) : (freeListed p s).dno = s.dno := rfl
@[simp] theorem freeListed_breakWait (p : Task → Bool) : (freeListed p s).breakWait = s.breakWait := rfl
@[simp] theorem freeListed_upo (p : Task → Bool) : (freeListed p s).upo = s.upo := rfl
@[simp] theorem freeListed_lastSource (p : Task → Bool) : (freeListed p s).lastSource = s.lastSource := rfl
@[simp] theorem freeListed_segNum (p : Task → Bool) : (freeListed p s).segNum = s.segNum := rfl
@[simp] theorem freeListed_terminal (p : Task → Bool) : (freeListed p s).terminal = s.terminal := rfl
@[simp] theorem freeListed_dnoRdy (p : Task → Bool) : (freeListed p s).dnoRdy = s.dnoRdy := rfl
@[simp] theorem freeListed_upoRdy (p : Task → Bool) : (freeListed p s).upoRdy = s.upoRdy := rfl
@[simp] theorem freeListed_downCheck (p : Task → Bool) : (freeListed p s).downCheck = s.downCheck := rfl
@[simp] theorem freeListed_downOverrun (p : Task → Bool) : (freeListed p s).downOverrun = s.downOverrun := rfl
@[simp] theorem freeListed_upCheck (p : Task → Bool) : (freeListed p s).upCheck = s.upCheck := rfl
@[simp] theorem freeListed_upOverrun (p : Task → Bool) : (freeListed p s).upOverrun = s.upOverrun := rfl
@[simp] theorem freeListed_ranges (p : Task → Bool) : (freeListed p s).ranges = s.ranges := rfl
@[simp] theorem freeListed_lanes (p : Task → Bool) : (freeListed p s).lanes = s.lanes := rfl
@[simp] theorem freeListed_bus (p : Task → Bool) : (freeListed p s).bus = s.bus := rfl
@[simp] theorem freeListed_cursor (p : Task → Bool) : (freeListed p s).cursor = s.cursor := rfl
@[simp] theorem freeListed_inventory (p : Task → Bool) : (freeListed p s).inventory = s.inventory := rfl
@[simp] theorem freeListed_exchange (p : Task → Bool) : (freeListed p s).exchange = s.exchange := rfl
@[simp] theorem freeListed_request (p : Task → Bool) : (freeListed p s).request = s.request := rfl
@[simp] theorem freeListed_batchLeft (p : Task → Bool) : (freeListed p s).batchLeft = s.batchLeft := rfl
@[simp] theorem freeListed_queue (p : Task → Bool) : (freeListed p s).queue = s.queue := rfl
@[simp] theorem freeListed_withheld (p : Task → Bool) : (freeListed p s).withheld = s.withheld := rfl
@[simp] theorem freeListed_head (p : Task → Bool) : (freeListed p s).head = s.head := rfl
@[simp] theorem freeListed_guard (p : Task → Bool) : (freeListed p s).guard = s.guard := rfl
@[simp] theorem freeListed_guardLine (p : Task → Bool) : (freeListed p s).guardLine = s.guardLine := rfl
@[simp] theorem freeListed_guardTimer (p : Task → Bool) : (freeListed p s).guardTimer = s.guardTimer := rfl
@[simp] theorem freeListed_test (p : Task → Bool) : (freeListed p s).test = s.test := rfl
@[simp] theorem freeListed_beaconEnable (p : Task → Bool) : (freeListed p s).beaconEnable = s.beaconEnable := rfl
@[simp] theorem freeListed_ctrl (p : Task → Bool) : (freeListed p s).ctrl = s.ctrl := rfl
@[simp] theorem freeListed_settleMs (p : Task → Bool) : (freeListed p s).settleMs = s.settleMs := rfl
@[simp] theorem freeListed_doneHoldS (p : Task → Bool) : (freeListed p s).doneHoldS = s.doneHoldS := rfl
@[simp] theorem freeListed_probationS (p : Task → Bool) : (freeListed p s).probationS = s.probationS := rfl
@[simp] theorem freeListed_guardSteps (p : Task → Bool) : (freeListed p s).guardSteps = s.guardSteps := rfl
@[simp] theorem freeListed_time (p : Task → Bool) : (freeListed p s).time = s.time := rfl
@[simp] theorem freeListed_lapsing (p : Task → Bool) : (freeListed p s).lapsing = s.lapsing := rfl

/-! ### freeDone changes pool -/

@[simp] theorem freeDone_pending (tag : Tag) : (freeDone tag s).pending = s.pending := rfl
@[simp] theorem freeDone_downBuf (tag : Tag) : (freeDone tag s).downBuf = s.downBuf := rfl
@[simp] theorem freeDone_upBuf (tag : Tag) : (freeDone tag s).upBuf = s.upBuf := rfl
@[simp] theorem freeDone_dno (tag : Tag) : (freeDone tag s).dno = s.dno := rfl
@[simp] theorem freeDone_breakWait (tag : Tag) : (freeDone tag s).breakWait = s.breakWait := rfl
@[simp] theorem freeDone_upo (tag : Tag) : (freeDone tag s).upo = s.upo := rfl
@[simp] theorem freeDone_lastSource (tag : Tag) : (freeDone tag s).lastSource = s.lastSource := rfl
@[simp] theorem freeDone_segNum (tag : Tag) : (freeDone tag s).segNum = s.segNum := rfl
@[simp] theorem freeDone_terminal (tag : Tag) : (freeDone tag s).terminal = s.terminal := rfl
@[simp] theorem freeDone_dnoRdy (tag : Tag) : (freeDone tag s).dnoRdy = s.dnoRdy := rfl
@[simp] theorem freeDone_upoRdy (tag : Tag) : (freeDone tag s).upoRdy = s.upoRdy := rfl
@[simp] theorem freeDone_downCheck (tag : Tag) : (freeDone tag s).downCheck = s.downCheck := rfl
@[simp] theorem freeDone_downOverrun (tag : Tag) : (freeDone tag s).downOverrun = s.downOverrun := rfl
@[simp] theorem freeDone_upCheck (tag : Tag) : (freeDone tag s).upCheck = s.upCheck := rfl
@[simp] theorem freeDone_upOverrun (tag : Tag) : (freeDone tag s).upOverrun = s.upOverrun := rfl
@[simp] theorem freeDone_ranges (tag : Tag) : (freeDone tag s).ranges = s.ranges := rfl
@[simp] theorem freeDone_slots (tag : Tag) : (freeDone tag s).slots = s.slots := rfl
@[simp] theorem freeDone_lanes (tag : Tag) : (freeDone tag s).lanes = s.lanes := rfl
@[simp] theorem freeDone_disp (tag : Tag) : (freeDone tag s).disp = s.disp := rfl
@[simp] theorem freeDone_bus (tag : Tag) : (freeDone tag s).bus = s.bus := rfl
@[simp] theorem freeDone_cursor (tag : Tag) : (freeDone tag s).cursor = s.cursor := rfl
@[simp] theorem freeDone_inventory (tag : Tag) : (freeDone tag s).inventory = s.inventory := rfl
@[simp] theorem freeDone_exchange (tag : Tag) : (freeDone tag s).exchange = s.exchange := rfl
@[simp] theorem freeDone_request (tag : Tag) : (freeDone tag s).request = s.request := rfl
@[simp] theorem freeDone_batchLeft (tag : Tag) : (freeDone tag s).batchLeft = s.batchLeft := rfl
@[simp] theorem freeDone_queue (tag : Tag) : (freeDone tag s).queue = s.queue := rfl
@[simp] theorem freeDone_withheld (tag : Tag) : (freeDone tag s).withheld = s.withheld := rfl
@[simp] theorem freeDone_head (tag : Tag) : (freeDone tag s).head = s.head := rfl
@[simp] theorem freeDone_guard (tag : Tag) : (freeDone tag s).guard = s.guard := rfl
@[simp] theorem freeDone_guardLine (tag : Tag) : (freeDone tag s).guardLine = s.guardLine := rfl
@[simp] theorem freeDone_guardTimer (tag : Tag) : (freeDone tag s).guardTimer = s.guardTimer := rfl
@[simp] theorem freeDone_test (tag : Tag) : (freeDone tag s).test = s.test := rfl
@[simp] theorem freeDone_beaconEnable (tag : Tag) : (freeDone tag s).beaconEnable = s.beaconEnable := rfl
@[simp] theorem freeDone_beacon (tag : Tag) : (freeDone tag s).beacon = s.beacon := rfl
@[simp] theorem freeDone_ctrl (tag : Tag) : (freeDone tag s).ctrl = s.ctrl := rfl
@[simp] theorem freeDone_settleMs (tag : Tag) : (freeDone tag s).settleMs = s.settleMs := rfl
@[simp] theorem freeDone_doneHoldS (tag : Tag) : (freeDone tag s).doneHoldS = s.doneHoldS := rfl
@[simp] theorem freeDone_probationS (tag : Tag) : (freeDone tag s).probationS = s.probationS := rfl
@[simp] theorem freeDone_guardSteps (tag : Tag) : (freeDone tag s).guardSteps = s.guardSteps := rfl
@[simp] theorem freeDone_time (tag : Tag) : (freeDone tag s).time = s.time := rfl
@[simp] theorem freeDone_lapsing (tag : Tag) : (freeDone tag s).lapsing = s.lapsing := rfl

/-! ### endExchange changes exchange, request -/

@[simp] theorem endExchange_pending : (endExchange s).pending = s.pending := rfl
@[simp] theorem endExchange_downBuf : (endExchange s).downBuf = s.downBuf := rfl
@[simp] theorem endExchange_upBuf : (endExchange s).upBuf = s.upBuf := rfl
@[simp] theorem endExchange_dno : (endExchange s).dno = s.dno := rfl
@[simp] theorem endExchange_breakWait : (endExchange s).breakWait = s.breakWait := rfl
@[simp] theorem endExchange_upo : (endExchange s).upo = s.upo := rfl
@[simp] theorem endExchange_lastSource : (endExchange s).lastSource = s.lastSource := rfl
@[simp] theorem endExchange_segNum : (endExchange s).segNum = s.segNum := rfl
@[simp] theorem endExchange_terminal : (endExchange s).terminal = s.terminal := rfl
@[simp] theorem endExchange_dnoRdy : (endExchange s).dnoRdy = s.dnoRdy := rfl
@[simp] theorem endExchange_upoRdy : (endExchange s).upoRdy = s.upoRdy := rfl
@[simp] theorem endExchange_downCheck : (endExchange s).downCheck = s.downCheck := rfl
@[simp] theorem endExchange_downOverrun : (endExchange s).downOverrun = s.downOverrun := rfl
@[simp] theorem endExchange_upCheck : (endExchange s).upCheck = s.upCheck := rfl
@[simp] theorem endExchange_upOverrun : (endExchange s).upOverrun = s.upOverrun := rfl
@[simp] theorem endExchange_ranges : (endExchange s).ranges = s.ranges := rfl
@[simp] theorem endExchange_pool : (endExchange s).pool = s.pool := rfl
@[simp] theorem endExchange_slots : (endExchange s).slots = s.slots := rfl
@[simp] theorem endExchange_lanes : (endExchange s).lanes = s.lanes := rfl
@[simp] theorem endExchange_disp : (endExchange s).disp = s.disp := rfl
@[simp] theorem endExchange_bus : (endExchange s).bus = s.bus := rfl
@[simp] theorem endExchange_cursor : (endExchange s).cursor = s.cursor := rfl
@[simp] theorem endExchange_inventory : (endExchange s).inventory = s.inventory := rfl
@[simp] theorem endExchange_batchLeft : (endExchange s).batchLeft = s.batchLeft := rfl
@[simp] theorem endExchange_queue : (endExchange s).queue = s.queue := rfl
@[simp] theorem endExchange_withheld : (endExchange s).withheld = s.withheld := rfl
@[simp] theorem endExchange_head : (endExchange s).head = s.head := rfl
@[simp] theorem endExchange_guard : (endExchange s).guard = s.guard := rfl
@[simp] theorem endExchange_guardLine : (endExchange s).guardLine = s.guardLine := rfl
@[simp] theorem endExchange_guardTimer : (endExchange s).guardTimer = s.guardTimer := rfl
@[simp] theorem endExchange_test : (endExchange s).test = s.test := rfl
@[simp] theorem endExchange_beaconEnable : (endExchange s).beaconEnable = s.beaconEnable := rfl
@[simp] theorem endExchange_beacon : (endExchange s).beacon = s.beacon := rfl
@[simp] theorem endExchange_ctrl : (endExchange s).ctrl = s.ctrl := rfl
@[simp] theorem endExchange_settleMs : (endExchange s).settleMs = s.settleMs := rfl
@[simp] theorem endExchange_doneHoldS : (endExchange s).doneHoldS = s.doneHoldS := rfl
@[simp] theorem endExchange_probationS : (endExchange s).probationS = s.probationS := rfl
@[simp] theorem endExchange_guardSteps : (endExchange s).guardSteps = s.guardSteps := rfl
@[simp] theorem endExchange_time : (endExchange s).time = s.time := rfl
@[simp] theorem endExchange_lapsing : (endExchange s).lapsing = s.lapsing := rfl

/-! ### endVisit changes exchange, request, batchLeft -/

@[simp] theorem endVisit_pending : (endVisit s).pending = s.pending := rfl
@[simp] theorem endVisit_downBuf : (endVisit s).downBuf = s.downBuf := rfl
@[simp] theorem endVisit_upBuf : (endVisit s).upBuf = s.upBuf := rfl
@[simp] theorem endVisit_dno : (endVisit s).dno = s.dno := rfl
@[simp] theorem endVisit_breakWait : (endVisit s).breakWait = s.breakWait := rfl
@[simp] theorem endVisit_upo : (endVisit s).upo = s.upo := rfl
@[simp] theorem endVisit_lastSource : (endVisit s).lastSource = s.lastSource := rfl
@[simp] theorem endVisit_segNum : (endVisit s).segNum = s.segNum := rfl
@[simp] theorem endVisit_terminal : (endVisit s).terminal = s.terminal := rfl
@[simp] theorem endVisit_dnoRdy : (endVisit s).dnoRdy = s.dnoRdy := rfl
@[simp] theorem endVisit_upoRdy : (endVisit s).upoRdy = s.upoRdy := rfl
@[simp] theorem endVisit_downCheck : (endVisit s).downCheck = s.downCheck := rfl
@[simp] theorem endVisit_downOverrun : (endVisit s).downOverrun = s.downOverrun := rfl
@[simp] theorem endVisit_upCheck : (endVisit s).upCheck = s.upCheck := rfl
@[simp] theorem endVisit_upOverrun : (endVisit s).upOverrun = s.upOverrun := rfl
@[simp] theorem endVisit_ranges : (endVisit s).ranges = s.ranges := rfl
@[simp] theorem endVisit_pool : (endVisit s).pool = s.pool := rfl
@[simp] theorem endVisit_slots : (endVisit s).slots = s.slots := rfl
@[simp] theorem endVisit_lanes : (endVisit s).lanes = s.lanes := rfl
@[simp] theorem endVisit_disp : (endVisit s).disp = s.disp := rfl
@[simp] theorem endVisit_bus : (endVisit s).bus = s.bus := rfl
@[simp] theorem endVisit_cursor : (endVisit s).cursor = s.cursor := rfl
@[simp] theorem endVisit_inventory : (endVisit s).inventory = s.inventory := rfl
@[simp] theorem endVisit_queue : (endVisit s).queue = s.queue := rfl
@[simp] theorem endVisit_withheld : (endVisit s).withheld = s.withheld := rfl
@[simp] theorem endVisit_head : (endVisit s).head = s.head := rfl
@[simp] theorem endVisit_guard : (endVisit s).guard = s.guard := rfl
@[simp] theorem endVisit_guardLine : (endVisit s).guardLine = s.guardLine := rfl
@[simp] theorem endVisit_guardTimer : (endVisit s).guardTimer = s.guardTimer := rfl
@[simp] theorem endVisit_test : (endVisit s).test = s.test := rfl
@[simp] theorem endVisit_beaconEnable : (endVisit s).beaconEnable = s.beaconEnable := rfl
@[simp] theorem endVisit_beacon : (endVisit s).beacon = s.beacon := rfl
@[simp] theorem endVisit_ctrl : (endVisit s).ctrl = s.ctrl := rfl
@[simp] theorem endVisit_settleMs : (endVisit s).settleMs = s.settleMs := rfl
@[simp] theorem endVisit_doneHoldS : (endVisit s).doneHoldS = s.doneHoldS := rfl
@[simp] theorem endVisit_probationS : (endVisit s).probationS = s.probationS := rfl
@[simp] theorem endVisit_guardSteps : (endVisit s).guardSteps = s.guardSteps := rfl
@[simp] theorem endVisit_time : (endVisit s).time = s.time := rfl
@[simp] theorem endVisit_lapsing : (endVisit s).lapsing = s.lapsing := rfl

/-! ### startExchange changes exchange, request -/

@[simp] theorem startExchange_pending (x : Exchange) : (startExchange x s).pending = s.pending := rfl
@[simp] theorem startExchange_downBuf (x : Exchange) : (startExchange x s).downBuf = s.downBuf := rfl
@[simp] theorem startExchange_upBuf (x : Exchange) : (startExchange x s).upBuf = s.upBuf := rfl
@[simp] theorem startExchange_dno (x : Exchange) : (startExchange x s).dno = s.dno := rfl
@[simp] theorem startExchange_breakWait (x : Exchange) : (startExchange x s).breakWait = s.breakWait := rfl
@[simp] theorem startExchange_upo (x : Exchange) : (startExchange x s).upo = s.upo := rfl
@[simp] theorem startExchange_lastSource (x : Exchange) : (startExchange x s).lastSource = s.lastSource := rfl
@[simp] theorem startExchange_segNum (x : Exchange) : (startExchange x s).segNum = s.segNum := rfl
@[simp] theorem startExchange_terminal (x : Exchange) : (startExchange x s).terminal = s.terminal := rfl
@[simp] theorem startExchange_dnoRdy (x : Exchange) : (startExchange x s).dnoRdy = s.dnoRdy := rfl
@[simp] theorem startExchange_upoRdy (x : Exchange) : (startExchange x s).upoRdy = s.upoRdy := rfl
@[simp] theorem startExchange_downCheck (x : Exchange) : (startExchange x s).downCheck = s.downCheck := rfl
@[simp] theorem startExchange_downOverrun (x : Exchange) : (startExchange x s).downOverrun = s.downOverrun := rfl
@[simp] theorem startExchange_upCheck (x : Exchange) : (startExchange x s).upCheck = s.upCheck := rfl
@[simp] theorem startExchange_upOverrun (x : Exchange) : (startExchange x s).upOverrun = s.upOverrun := rfl
@[simp] theorem startExchange_ranges (x : Exchange) : (startExchange x s).ranges = s.ranges := rfl
@[simp] theorem startExchange_pool (x : Exchange) : (startExchange x s).pool = s.pool := rfl
@[simp] theorem startExchange_slots (x : Exchange) : (startExchange x s).slots = s.slots := rfl
@[simp] theorem startExchange_lanes (x : Exchange) : (startExchange x s).lanes = s.lanes := rfl
@[simp] theorem startExchange_disp (x : Exchange) : (startExchange x s).disp = s.disp := rfl
@[simp] theorem startExchange_bus (x : Exchange) : (startExchange x s).bus = s.bus := rfl
@[simp] theorem startExchange_cursor (x : Exchange) : (startExchange x s).cursor = s.cursor := rfl
@[simp] theorem startExchange_inventory (x : Exchange) : (startExchange x s).inventory = s.inventory := rfl
@[simp] theorem startExchange_batchLeft (x : Exchange) : (startExchange x s).batchLeft = s.batchLeft := rfl
@[simp] theorem startExchange_queue (x : Exchange) : (startExchange x s).queue = s.queue := rfl
@[simp] theorem startExchange_withheld (x : Exchange) : (startExchange x s).withheld = s.withheld := rfl
@[simp] theorem startExchange_head (x : Exchange) : (startExchange x s).head = s.head := rfl
@[simp] theorem startExchange_guard (x : Exchange) : (startExchange x s).guard = s.guard := rfl
@[simp] theorem startExchange_guardLine (x : Exchange) : (startExchange x s).guardLine = s.guardLine := rfl
@[simp] theorem startExchange_guardTimer (x : Exchange) : (startExchange x s).guardTimer = s.guardTimer := rfl
@[simp] theorem startExchange_test (x : Exchange) : (startExchange x s).test = s.test := rfl
@[simp] theorem startExchange_beaconEnable (x : Exchange) : (startExchange x s).beaconEnable = s.beaconEnable := rfl
@[simp] theorem startExchange_beacon (x : Exchange) : (startExchange x s).beacon = s.beacon := rfl
@[simp] theorem startExchange_ctrl (x : Exchange) : (startExchange x s).ctrl = s.ctrl := rfl
@[simp] theorem startExchange_settleMs (x : Exchange) : (startExchange x s).settleMs = s.settleMs := rfl
@[simp] theorem startExchange_doneHoldS (x : Exchange) : (startExchange x s).doneHoldS = s.doneHoldS := rfl
@[simp] theorem startExchange_probationS (x : Exchange) : (startExchange x s).probationS = s.probationS := rfl
@[simp] theorem startExchange_guardSteps (x : Exchange) : (startExchange x s).guardSteps = s.guardSteps := rfl
@[simp] theorem startExchange_time (x : Exchange) : (startExchange x s).time = s.time := rfl
@[simp] theorem startExchange_lapsing (x : Exchange) : (startExchange x s).lapsing = s.lapsing := rfl

/-! ### answered changes bus -/

@[simp] theorem answered_pending (c : Channel) : (answered c s).pending = s.pending := rfl
@[simp] theorem answered_downBuf (c : Channel) : (answered c s).downBuf = s.downBuf := rfl
@[simp] theorem answered_upBuf (c : Channel) : (answered c s).upBuf = s.upBuf := rfl
@[simp] theorem answered_dno (c : Channel) : (answered c s).dno = s.dno := rfl
@[simp] theorem answered_breakWait (c : Channel) : (answered c s).breakWait = s.breakWait := rfl
@[simp] theorem answered_upo (c : Channel) : (answered c s).upo = s.upo := rfl
@[simp] theorem answered_lastSource (c : Channel) : (answered c s).lastSource = s.lastSource := rfl
@[simp] theorem answered_segNum (c : Channel) : (answered c s).segNum = s.segNum := rfl
@[simp] theorem answered_terminal (c : Channel) : (answered c s).terminal = s.terminal := rfl
@[simp] theorem answered_dnoRdy (c : Channel) : (answered c s).dnoRdy = s.dnoRdy := rfl
@[simp] theorem answered_upoRdy (c : Channel) : (answered c s).upoRdy = s.upoRdy := rfl
@[simp] theorem answered_downCheck (c : Channel) : (answered c s).downCheck = s.downCheck := rfl
@[simp] theorem answered_downOverrun (c : Channel) : (answered c s).downOverrun = s.downOverrun := rfl
@[simp] theorem answered_upCheck (c : Channel) : (answered c s).upCheck = s.upCheck := rfl
@[simp] theorem answered_upOverrun (c : Channel) : (answered c s).upOverrun = s.upOverrun := rfl
@[simp] theorem answered_ranges (c : Channel) : (answered c s).ranges = s.ranges := rfl
@[simp] theorem answered_pool (c : Channel) : (answered c s).pool = s.pool := rfl
@[simp] theorem answered_slots (c : Channel) : (answered c s).slots = s.slots := rfl
@[simp] theorem answered_lanes (c : Channel) : (answered c s).lanes = s.lanes := rfl
@[simp] theorem answered_disp (c : Channel) : (answered c s).disp = s.disp := rfl
@[simp] theorem answered_cursor (c : Channel) : (answered c s).cursor = s.cursor := rfl
@[simp] theorem answered_inventory (c : Channel) : (answered c s).inventory = s.inventory := rfl
@[simp] theorem answered_exchange (c : Channel) : (answered c s).exchange = s.exchange := rfl
@[simp] theorem answered_request (c : Channel) : (answered c s).request = s.request := rfl
@[simp] theorem answered_batchLeft (c : Channel) : (answered c s).batchLeft = s.batchLeft := rfl
@[simp] theorem answered_queue (c : Channel) : (answered c s).queue = s.queue := rfl
@[simp] theorem answered_withheld (c : Channel) : (answered c s).withheld = s.withheld := rfl
@[simp] theorem answered_head (c : Channel) : (answered c s).head = s.head := rfl
@[simp] theorem answered_guard (c : Channel) : (answered c s).guard = s.guard := rfl
@[simp] theorem answered_guardLine (c : Channel) : (answered c s).guardLine = s.guardLine := rfl
@[simp] theorem answered_guardTimer (c : Channel) : (answered c s).guardTimer = s.guardTimer := rfl
@[simp] theorem answered_test (c : Channel) : (answered c s).test = s.test := rfl
@[simp] theorem answered_beaconEnable (c : Channel) : (answered c s).beaconEnable = s.beaconEnable := rfl
@[simp] theorem answered_beacon (c : Channel) : (answered c s).beacon = s.beacon := rfl
@[simp] theorem answered_ctrl (c : Channel) : (answered c s).ctrl = s.ctrl := rfl
@[simp] theorem answered_settleMs (c : Channel) : (answered c s).settleMs = s.settleMs := rfl
@[simp] theorem answered_doneHoldS (c : Channel) : (answered c s).doneHoldS = s.doneHoldS := rfl
@[simp] theorem answered_probationS (c : Channel) : (answered c s).probationS = s.probationS := rfl
@[simp] theorem answered_guardSteps (c : Channel) : (answered c s).guardSteps = s.guardSteps := rfl
@[simp] theorem answered_time (c : Channel) : (answered c s).time = s.time := rfl
@[simp] theorem answered_lapsing (c : Channel) : (answered c s).lapsing = s.lapsing := rfl

/-! ### endTestByHold changes disp, test -/

@[simp] theorem endTestByHold_pending : (endTestByHold s).pending = s.pending := rfl
@[simp] theorem endTestByHold_downBuf : (endTestByHold s).downBuf = s.downBuf := rfl
@[simp] theorem endTestByHold_upBuf : (endTestByHold s).upBuf = s.upBuf := rfl
@[simp] theorem endTestByHold_dno : (endTestByHold s).dno = s.dno := rfl
@[simp] theorem endTestByHold_breakWait : (endTestByHold s).breakWait = s.breakWait := rfl
@[simp] theorem endTestByHold_upo : (endTestByHold s).upo = s.upo := rfl
@[simp] theorem endTestByHold_lastSource : (endTestByHold s).lastSource = s.lastSource := rfl
@[simp] theorem endTestByHold_segNum : (endTestByHold s).segNum = s.segNum := rfl
@[simp] theorem endTestByHold_terminal : (endTestByHold s).terminal = s.terminal := rfl
@[simp] theorem endTestByHold_dnoRdy : (endTestByHold s).dnoRdy = s.dnoRdy := rfl
@[simp] theorem endTestByHold_upoRdy : (endTestByHold s).upoRdy = s.upoRdy := rfl
@[simp] theorem endTestByHold_downCheck : (endTestByHold s).downCheck = s.downCheck := rfl
@[simp] theorem endTestByHold_downOverrun : (endTestByHold s).downOverrun = s.downOverrun := rfl
@[simp] theorem endTestByHold_upCheck : (endTestByHold s).upCheck = s.upCheck := rfl
@[simp] theorem endTestByHold_upOverrun : (endTestByHold s).upOverrun = s.upOverrun := rfl
@[simp] theorem endTestByHold_ranges : (endTestByHold s).ranges = s.ranges := rfl
@[simp] theorem endTestByHold_pool : (endTestByHold s).pool = s.pool := rfl
@[simp] theorem endTestByHold_slots : (endTestByHold s).slots = s.slots := rfl
@[simp] theorem endTestByHold_lanes : (endTestByHold s).lanes = s.lanes := rfl
@[simp] theorem endTestByHold_bus : (endTestByHold s).bus = s.bus := rfl
@[simp] theorem endTestByHold_cursor : (endTestByHold s).cursor = s.cursor := rfl
@[simp] theorem endTestByHold_inventory : (endTestByHold s).inventory = s.inventory := rfl
@[simp] theorem endTestByHold_exchange : (endTestByHold s).exchange = s.exchange := rfl
@[simp] theorem endTestByHold_request : (endTestByHold s).request = s.request := rfl
@[simp] theorem endTestByHold_batchLeft : (endTestByHold s).batchLeft = s.batchLeft := rfl
@[simp] theorem endTestByHold_queue : (endTestByHold s).queue = s.queue := rfl
@[simp] theorem endTestByHold_withheld : (endTestByHold s).withheld = s.withheld := rfl
@[simp] theorem endTestByHold_head : (endTestByHold s).head = s.head := rfl
@[simp] theorem endTestByHold_guard : (endTestByHold s).guard = s.guard := rfl
@[simp] theorem endTestByHold_guardLine : (endTestByHold s).guardLine = s.guardLine := rfl
@[simp] theorem endTestByHold_guardTimer : (endTestByHold s).guardTimer = s.guardTimer := rfl
@[simp] theorem endTestByHold_beaconEnable : (endTestByHold s).beaconEnable = s.beaconEnable := rfl
@[simp] theorem endTestByHold_beacon : (endTestByHold s).beacon = s.beacon := rfl
@[simp] theorem endTestByHold_ctrl : (endTestByHold s).ctrl = s.ctrl := rfl
@[simp] theorem endTestByHold_settleMs : (endTestByHold s).settleMs = s.settleMs := rfl
@[simp] theorem endTestByHold_doneHoldS : (endTestByHold s).doneHoldS = s.doneHoldS := rfl
@[simp] theorem endTestByHold_probationS : (endTestByHold s).probationS = s.probationS := rfl
@[simp] theorem endTestByHold_guardSteps : (endTestByHold s).guardSteps = s.guardSteps := rfl
@[simp] theorem endTestByHold_time : (endTestByHold s).time = s.time := rfl
@[simp] theorem endTestByHold_lapsing : (endTestByHold s).lapsing = s.lapsing := rfl

/-! ### endTestByExpiry changes disp, test -/

@[simp] theorem endTestByExpiry_pending : (endTestByExpiry s).pending = s.pending := rfl
@[simp] theorem endTestByExpiry_downBuf : (endTestByExpiry s).downBuf = s.downBuf := rfl
@[simp] theorem endTestByExpiry_upBuf : (endTestByExpiry s).upBuf = s.upBuf := rfl
@[simp] theorem endTestByExpiry_dno : (endTestByExpiry s).dno = s.dno := rfl
@[simp] theorem endTestByExpiry_breakWait : (endTestByExpiry s).breakWait = s.breakWait := rfl
@[simp] theorem endTestByExpiry_upo : (endTestByExpiry s).upo = s.upo := rfl
@[simp] theorem endTestByExpiry_lastSource : (endTestByExpiry s).lastSource = s.lastSource := rfl
@[simp] theorem endTestByExpiry_segNum : (endTestByExpiry s).segNum = s.segNum := rfl
@[simp] theorem endTestByExpiry_terminal : (endTestByExpiry s).terminal = s.terminal := rfl
@[simp] theorem endTestByExpiry_dnoRdy : (endTestByExpiry s).dnoRdy = s.dnoRdy := rfl
@[simp] theorem endTestByExpiry_upoRdy : (endTestByExpiry s).upoRdy = s.upoRdy := rfl
@[simp] theorem endTestByExpiry_downCheck : (endTestByExpiry s).downCheck = s.downCheck := rfl
@[simp] theorem endTestByExpiry_downOverrun : (endTestByExpiry s).downOverrun = s.downOverrun := rfl
@[simp] theorem endTestByExpiry_upCheck : (endTestByExpiry s).upCheck = s.upCheck := rfl
@[simp] theorem endTestByExpiry_upOverrun : (endTestByExpiry s).upOverrun = s.upOverrun := rfl
@[simp] theorem endTestByExpiry_ranges : (endTestByExpiry s).ranges = s.ranges := rfl
@[simp] theorem endTestByExpiry_pool : (endTestByExpiry s).pool = s.pool := rfl
@[simp] theorem endTestByExpiry_slots : (endTestByExpiry s).slots = s.slots := rfl
@[simp] theorem endTestByExpiry_lanes : (endTestByExpiry s).lanes = s.lanes := rfl
@[simp] theorem endTestByExpiry_bus : (endTestByExpiry s).bus = s.bus := rfl
@[simp] theorem endTestByExpiry_cursor : (endTestByExpiry s).cursor = s.cursor := rfl
@[simp] theorem endTestByExpiry_inventory : (endTestByExpiry s).inventory = s.inventory := rfl
@[simp] theorem endTestByExpiry_exchange : (endTestByExpiry s).exchange = s.exchange := rfl
@[simp] theorem endTestByExpiry_request : (endTestByExpiry s).request = s.request := rfl
@[simp] theorem endTestByExpiry_batchLeft : (endTestByExpiry s).batchLeft = s.batchLeft := rfl
@[simp] theorem endTestByExpiry_queue : (endTestByExpiry s).queue = s.queue := rfl
@[simp] theorem endTestByExpiry_withheld : (endTestByExpiry s).withheld = s.withheld := rfl
@[simp] theorem endTestByExpiry_head : (endTestByExpiry s).head = s.head := rfl
@[simp] theorem endTestByExpiry_guard : (endTestByExpiry s).guard = s.guard := rfl
@[simp] theorem endTestByExpiry_guardLine : (endTestByExpiry s).guardLine = s.guardLine := rfl
@[simp] theorem endTestByExpiry_guardTimer : (endTestByExpiry s).guardTimer = s.guardTimer := rfl
@[simp] theorem endTestByExpiry_beaconEnable : (endTestByExpiry s).beaconEnable = s.beaconEnable := rfl
@[simp] theorem endTestByExpiry_beacon : (endTestByExpiry s).beacon = s.beacon := rfl
@[simp] theorem endTestByExpiry_ctrl : (endTestByExpiry s).ctrl = s.ctrl := rfl
@[simp] theorem endTestByExpiry_settleMs : (endTestByExpiry s).settleMs = s.settleMs := rfl
@[simp] theorem endTestByExpiry_doneHoldS : (endTestByExpiry s).doneHoldS = s.doneHoldS := rfl
@[simp] theorem endTestByExpiry_probationS : (endTestByExpiry s).probationS = s.probationS := rfl
@[simp] theorem endTestByExpiry_guardSteps : (endTestByExpiry s).guardSteps = s.guardSteps := rfl
@[simp] theorem endTestByExpiry_time : (endTestByExpiry s).time = s.time := rfl
@[simp] theorem endTestByExpiry_lapsing : (endTestByExpiry s).lapsing = s.lapsing := rfl

/-! ### holdBegins changes disp, test -/

@[simp] theorem holdBegins_pending : (holdBegins s).pending = s.pending := rfl
@[simp] theorem holdBegins_downBuf : (holdBegins s).downBuf = s.downBuf := rfl
@[simp] theorem holdBegins_upBuf : (holdBegins s).upBuf = s.upBuf := rfl
@[simp] theorem holdBegins_dno : (holdBegins s).dno = s.dno := rfl
@[simp] theorem holdBegins_breakWait : (holdBegins s).breakWait = s.breakWait := rfl
@[simp] theorem holdBegins_upo : (holdBegins s).upo = s.upo := rfl
@[simp] theorem holdBegins_lastSource : (holdBegins s).lastSource = s.lastSource := rfl
@[simp] theorem holdBegins_segNum : (holdBegins s).segNum = s.segNum := rfl
@[simp] theorem holdBegins_terminal : (holdBegins s).terminal = s.terminal := rfl
@[simp] theorem holdBegins_dnoRdy : (holdBegins s).dnoRdy = s.dnoRdy := rfl
@[simp] theorem holdBegins_upoRdy : (holdBegins s).upoRdy = s.upoRdy := rfl
@[simp] theorem holdBegins_downCheck : (holdBegins s).downCheck = s.downCheck := rfl
@[simp] theorem holdBegins_downOverrun : (holdBegins s).downOverrun = s.downOverrun := rfl
@[simp] theorem holdBegins_upCheck : (holdBegins s).upCheck = s.upCheck := rfl
@[simp] theorem holdBegins_upOverrun : (holdBegins s).upOverrun = s.upOverrun := rfl
@[simp] theorem holdBegins_ranges : (holdBegins s).ranges = s.ranges := rfl
@[simp] theorem holdBegins_pool : (holdBegins s).pool = s.pool := rfl
@[simp] theorem holdBegins_slots : (holdBegins s).slots = s.slots := rfl
@[simp] theorem holdBegins_lanes : (holdBegins s).lanes = s.lanes := rfl
@[simp] theorem holdBegins_bus : (holdBegins s).bus = s.bus := rfl
@[simp] theorem holdBegins_cursor : (holdBegins s).cursor = s.cursor := rfl
@[simp] theorem holdBegins_inventory : (holdBegins s).inventory = s.inventory := rfl
@[simp] theorem holdBegins_exchange : (holdBegins s).exchange = s.exchange := rfl
@[simp] theorem holdBegins_request : (holdBegins s).request = s.request := rfl
@[simp] theorem holdBegins_batchLeft : (holdBegins s).batchLeft = s.batchLeft := rfl
@[simp] theorem holdBegins_queue : (holdBegins s).queue = s.queue := rfl
@[simp] theorem holdBegins_withheld : (holdBegins s).withheld = s.withheld := rfl
@[simp] theorem holdBegins_head : (holdBegins s).head = s.head := rfl
@[simp] theorem holdBegins_guard : (holdBegins s).guard = s.guard := rfl
@[simp] theorem holdBegins_guardLine : (holdBegins s).guardLine = s.guardLine := rfl
@[simp] theorem holdBegins_guardTimer : (holdBegins s).guardTimer = s.guardTimer := rfl
@[simp] theorem holdBegins_beaconEnable : (holdBegins s).beaconEnable = s.beaconEnable := rfl
@[simp] theorem holdBegins_beacon : (holdBegins s).beacon = s.beacon := rfl
@[simp] theorem holdBegins_ctrl : (holdBegins s).ctrl = s.ctrl := rfl
@[simp] theorem holdBegins_settleMs : (holdBegins s).settleMs = s.settleMs := rfl
@[simp] theorem holdBegins_doneHoldS : (holdBegins s).doneHoldS = s.doneHoldS := rfl
@[simp] theorem holdBegins_probationS : (holdBegins s).probationS = s.probationS := rfl
@[simp] theorem holdBegins_guardSteps : (holdBegins s).guardSteps = s.guardSteps := rfl
@[simp] theorem holdBegins_time : (holdBegins s).time = s.time := rfl
@[simp] theorem holdBegins_lapsing : (holdBegins s).lapsing = s.lapsing := rfl

/-! ### holdEnds changes disp -/

@[simp] theorem holdEnds_pending : (holdEnds s).pending = s.pending := rfl
@[simp] theorem holdEnds_downBuf : (holdEnds s).downBuf = s.downBuf := rfl
@[simp] theorem holdEnds_upBuf : (holdEnds s).upBuf = s.upBuf := rfl
@[simp] theorem holdEnds_dno : (holdEnds s).dno = s.dno := rfl
@[simp] theorem holdEnds_breakWait : (holdEnds s).breakWait = s.breakWait := rfl
@[simp] theorem holdEnds_upo : (holdEnds s).upo = s.upo := rfl
@[simp] theorem holdEnds_lastSource : (holdEnds s).lastSource = s.lastSource := rfl
@[simp] theorem holdEnds_segNum : (holdEnds s).segNum = s.segNum := rfl
@[simp] theorem holdEnds_terminal : (holdEnds s).terminal = s.terminal := rfl
@[simp] theorem holdEnds_dnoRdy : (holdEnds s).dnoRdy = s.dnoRdy := rfl
@[simp] theorem holdEnds_upoRdy : (holdEnds s).upoRdy = s.upoRdy := rfl
@[simp] theorem holdEnds_downCheck : (holdEnds s).downCheck = s.downCheck := rfl
@[simp] theorem holdEnds_downOverrun : (holdEnds s).downOverrun = s.downOverrun := rfl
@[simp] theorem holdEnds_upCheck : (holdEnds s).upCheck = s.upCheck := rfl
@[simp] theorem holdEnds_upOverrun : (holdEnds s).upOverrun = s.upOverrun := rfl
@[simp] theorem holdEnds_ranges : (holdEnds s).ranges = s.ranges := rfl
@[simp] theorem holdEnds_pool : (holdEnds s).pool = s.pool := rfl
@[simp] theorem holdEnds_slots : (holdEnds s).slots = s.slots := rfl
@[simp] theorem holdEnds_lanes : (holdEnds s).lanes = s.lanes := rfl
@[simp] theorem holdEnds_bus : (holdEnds s).bus = s.bus := rfl
@[simp] theorem holdEnds_cursor : (holdEnds s).cursor = s.cursor := rfl
@[simp] theorem holdEnds_inventory : (holdEnds s).inventory = s.inventory := rfl
@[simp] theorem holdEnds_exchange : (holdEnds s).exchange = s.exchange := rfl
@[simp] theorem holdEnds_request : (holdEnds s).request = s.request := rfl
@[simp] theorem holdEnds_batchLeft : (holdEnds s).batchLeft = s.batchLeft := rfl
@[simp] theorem holdEnds_queue : (holdEnds s).queue = s.queue := rfl
@[simp] theorem holdEnds_withheld : (holdEnds s).withheld = s.withheld := rfl
@[simp] theorem holdEnds_head : (holdEnds s).head = s.head := rfl
@[simp] theorem holdEnds_guard : (holdEnds s).guard = s.guard := rfl
@[simp] theorem holdEnds_guardLine : (holdEnds s).guardLine = s.guardLine := rfl
@[simp] theorem holdEnds_guardTimer : (holdEnds s).guardTimer = s.guardTimer := rfl
@[simp] theorem holdEnds_test : (holdEnds s).test = s.test := rfl
@[simp] theorem holdEnds_beaconEnable : (holdEnds s).beaconEnable = s.beaconEnable := rfl
@[simp] theorem holdEnds_beacon : (holdEnds s).beacon = s.beacon := rfl
@[simp] theorem holdEnds_ctrl : (holdEnds s).ctrl = s.ctrl := rfl
@[simp] theorem holdEnds_settleMs : (holdEnds s).settleMs = s.settleMs := rfl
@[simp] theorem holdEnds_doneHoldS : (holdEnds s).doneHoldS = s.doneHoldS := rfl
@[simp] theorem holdEnds_probationS : (holdEnds s).probationS = s.probationS := rfl
@[simp] theorem holdEnds_guardSteps : (holdEnds s).guardSteps = s.guardSteps := rfl
@[simp] theorem holdEnds_time : (holdEnds s).time = s.time := rfl
@[simp] theorem holdEnds_lapsing : (holdEnds s).lapsing = s.lapsing := rfl

/-! ### setHold changes head, guard, disp, test -/

@[simp] theorem setHold_pending (h g : Bool) : (setHold h g s).pending = s.pending := by unfold setHold; split_ifs <;> rfl
@[simp] theorem setHold_downBuf (h g : Bool) : (setHold h g s).downBuf = s.downBuf := by unfold setHold; split_ifs <;> rfl
@[simp] theorem setHold_upBuf (h g : Bool) : (setHold h g s).upBuf = s.upBuf := by unfold setHold; split_ifs <;> rfl
@[simp] theorem setHold_dno (h g : Bool) : (setHold h g s).dno = s.dno := by unfold setHold; split_ifs <;> rfl
@[simp] theorem setHold_breakWait (h g : Bool) : (setHold h g s).breakWait = s.breakWait := by unfold setHold; split_ifs <;> rfl
@[simp] theorem setHold_upo (h g : Bool) : (setHold h g s).upo = s.upo := by unfold setHold; split_ifs <;> rfl
@[simp] theorem setHold_lastSource (h g : Bool) : (setHold h g s).lastSource = s.lastSource := by unfold setHold; split_ifs <;> rfl
@[simp] theorem setHold_segNum (h g : Bool) : (setHold h g s).segNum = s.segNum := by unfold setHold; split_ifs <;> rfl
@[simp] theorem setHold_terminal (h g : Bool) : (setHold h g s).terminal = s.terminal := by unfold setHold; split_ifs <;> rfl
@[simp] theorem setHold_dnoRdy (h g : Bool) : (setHold h g s).dnoRdy = s.dnoRdy := by unfold setHold; split_ifs <;> rfl
@[simp] theorem setHold_upoRdy (h g : Bool) : (setHold h g s).upoRdy = s.upoRdy := by unfold setHold; split_ifs <;> rfl
@[simp] theorem setHold_downCheck (h g : Bool) : (setHold h g s).downCheck = s.downCheck := by unfold setHold; split_ifs <;> rfl
@[simp] theorem setHold_downOverrun (h g : Bool) : (setHold h g s).downOverrun = s.downOverrun := by unfold setHold; split_ifs <;> rfl
@[simp] theorem setHold_upCheck (h g : Bool) : (setHold h g s).upCheck = s.upCheck := by unfold setHold; split_ifs <;> rfl
@[simp] theorem setHold_upOverrun (h g : Bool) : (setHold h g s).upOverrun = s.upOverrun := by unfold setHold; split_ifs <;> rfl
@[simp] theorem setHold_ranges (h g : Bool) : (setHold h g s).ranges = s.ranges := by unfold setHold; split_ifs <;> rfl
@[simp] theorem setHold_pool (h g : Bool) : (setHold h g s).pool = s.pool := by unfold setHold; split_ifs <;> rfl
@[simp] theorem setHold_slots (h g : Bool) : (setHold h g s).slots = s.slots := by unfold setHold; split_ifs <;> rfl
@[simp] theorem setHold_lanes (h g : Bool) : (setHold h g s).lanes = s.lanes := by unfold setHold; split_ifs <;> rfl
@[simp] theorem setHold_bus (h g : Bool) : (setHold h g s).bus = s.bus := by unfold setHold; split_ifs <;> rfl
@[simp] theorem setHold_cursor (h g : Bool) : (setHold h g s).cursor = s.cursor := by unfold setHold; split_ifs <;> rfl
@[simp] theorem setHold_inventory (h g : Bool) : (setHold h g s).inventory = s.inventory := by unfold setHold; split_ifs <;> rfl
@[simp] theorem setHold_exchange (h g : Bool) : (setHold h g s).exchange = s.exchange := by unfold setHold; split_ifs <;> rfl
@[simp] theorem setHold_request (h g : Bool) : (setHold h g s).request = s.request := by unfold setHold; split_ifs <;> rfl
@[simp] theorem setHold_batchLeft (h g : Bool) : (setHold h g s).batchLeft = s.batchLeft := by unfold setHold; split_ifs <;> rfl
@[simp] theorem setHold_queue (h g : Bool) : (setHold h g s).queue = s.queue := by unfold setHold; split_ifs <;> rfl
@[simp] theorem setHold_withheld (h g : Bool) : (setHold h g s).withheld = s.withheld := by unfold setHold; split_ifs <;> rfl
@[simp] theorem setHold_guardLine (h g : Bool) : (setHold h g s).guardLine = s.guardLine := by unfold setHold; split_ifs <;> rfl
@[simp] theorem setHold_guardTimer (h g : Bool) : (setHold h g s).guardTimer = s.guardTimer := by unfold setHold; split_ifs <;> rfl
@[simp] theorem setHold_beaconEnable (h g : Bool) : (setHold h g s).beaconEnable = s.beaconEnable := by unfold setHold; split_ifs <;> rfl
@[simp] theorem setHold_beacon (h g : Bool) : (setHold h g s).beacon = s.beacon := by unfold setHold; split_ifs <;> rfl
@[simp] theorem setHold_ctrl (h g : Bool) : (setHold h g s).ctrl = s.ctrl := by unfold setHold; split_ifs <;> rfl
@[simp] theorem setHold_settleMs (h g : Bool) : (setHold h g s).settleMs = s.settleMs := by unfold setHold; split_ifs <;> rfl
@[simp] theorem setHold_doneHoldS (h g : Bool) : (setHold h g s).doneHoldS = s.doneHoldS := by unfold setHold; split_ifs <;> rfl
@[simp] theorem setHold_probationS (h g : Bool) : (setHold h g s).probationS = s.probationS := by unfold setHold; split_ifs <;> rfl
@[simp] theorem setHold_guardSteps (h g : Bool) : (setHold h g s).guardSteps = s.guardSteps := by unfold setHold; split_ifs <;> rfl
@[simp] theorem setHold_time (h g : Bool) : (setHold h g s).time = s.time := by unfold setHold; split_ifs <;> rfl
@[simp] theorem setHold_lapsing (h g : Bool) : (setHold h g s).lapsing = s.lapsing := by unfold setHold; split_ifs <;> rfl

/-! ### failChannel changes bus, disp, test, queue, withheld, beacon -/

@[simp] theorem failChannel_pending (c : Channel) (iso : Bool) : (failChannel c iso s).pending = s.pending := by simp [failChannel]
@[simp] theorem failChannel_downBuf (c : Channel) (iso : Bool) : (failChannel c iso s).downBuf = s.downBuf := by simp [failChannel]
@[simp] theorem failChannel_upBuf (c : Channel) (iso : Bool) : (failChannel c iso s).upBuf = s.upBuf := by simp [failChannel]
@[simp] theorem failChannel_dno (c : Channel) (iso : Bool) : (failChannel c iso s).dno = s.dno := by simp [failChannel]
@[simp] theorem failChannel_breakWait (c : Channel) (iso : Bool) : (failChannel c iso s).breakWait = s.breakWait := by simp [failChannel]
@[simp] theorem failChannel_upo (c : Channel) (iso : Bool) : (failChannel c iso s).upo = s.upo := by simp [failChannel]
@[simp] theorem failChannel_lastSource (c : Channel) (iso : Bool) : (failChannel c iso s).lastSource = s.lastSource := by simp [failChannel]
@[simp] theorem failChannel_segNum (c : Channel) (iso : Bool) : (failChannel c iso s).segNum = s.segNum := by simp [failChannel]
@[simp] theorem failChannel_terminal (c : Channel) (iso : Bool) : (failChannel c iso s).terminal = s.terminal := by simp [failChannel]
@[simp] theorem failChannel_dnoRdy (c : Channel) (iso : Bool) : (failChannel c iso s).dnoRdy = s.dnoRdy := by simp [failChannel]
@[simp] theorem failChannel_upoRdy (c : Channel) (iso : Bool) : (failChannel c iso s).upoRdy = s.upoRdy := by simp [failChannel]
@[simp] theorem failChannel_downCheck (c : Channel) (iso : Bool) : (failChannel c iso s).downCheck = s.downCheck := by simp [failChannel]
@[simp] theorem failChannel_downOverrun (c : Channel) (iso : Bool) : (failChannel c iso s).downOverrun = s.downOverrun := by simp [failChannel]
@[simp] theorem failChannel_upCheck (c : Channel) (iso : Bool) : (failChannel c iso s).upCheck = s.upCheck := by simp [failChannel]
@[simp] theorem failChannel_upOverrun (c : Channel) (iso : Bool) : (failChannel c iso s).upOverrun = s.upOverrun := by simp [failChannel]
@[simp] theorem failChannel_ranges (c : Channel) (iso : Bool) : (failChannel c iso s).ranges = s.ranges := by simp [failChannel]
@[simp] theorem failChannel_pool (c : Channel) (iso : Bool) : (failChannel c iso s).pool = s.pool := by simp [failChannel]
@[simp] theorem failChannel_slots (c : Channel) (iso : Bool) : (failChannel c iso s).slots = s.slots := by simp [failChannel]
@[simp] theorem failChannel_lanes (c : Channel) (iso : Bool) : (failChannel c iso s).lanes = s.lanes := by simp [failChannel]
@[simp] theorem failChannel_cursor (c : Channel) (iso : Bool) : (failChannel c iso s).cursor = s.cursor := by simp [failChannel]
@[simp] theorem failChannel_inventory (c : Channel) (iso : Bool) : (failChannel c iso s).inventory = s.inventory := by simp [failChannel]
@[simp] theorem failChannel_exchange (c : Channel) (iso : Bool) : (failChannel c iso s).exchange = s.exchange := by simp [failChannel]
@[simp] theorem failChannel_request (c : Channel) (iso : Bool) : (failChannel c iso s).request = s.request := by simp [failChannel]
@[simp] theorem failChannel_batchLeft (c : Channel) (iso : Bool) : (failChannel c iso s).batchLeft = s.batchLeft := by simp [failChannel]
@[simp] theorem failChannel_head (c : Channel) (iso : Bool) : (failChannel c iso s).head = s.head := by simp [failChannel]
@[simp] theorem failChannel_guard (c : Channel) (iso : Bool) : (failChannel c iso s).guard = s.guard := by simp [failChannel]
@[simp] theorem failChannel_guardLine (c : Channel) (iso : Bool) : (failChannel c iso s).guardLine = s.guardLine := by simp [failChannel]
@[simp] theorem failChannel_guardTimer (c : Channel) (iso : Bool) : (failChannel c iso s).guardTimer = s.guardTimer := by simp [failChannel]
@[simp] theorem failChannel_beaconEnable (c : Channel) (iso : Bool) : (failChannel c iso s).beaconEnable = s.beaconEnable := by simp [failChannel]
@[simp] theorem failChannel_ctrl (c : Channel) (iso : Bool) : (failChannel c iso s).ctrl = s.ctrl := by simp [failChannel]
@[simp] theorem failChannel_settleMs (c : Channel) (iso : Bool) : (failChannel c iso s).settleMs = s.settleMs := by simp [failChannel]
@[simp] theorem failChannel_doneHoldS (c : Channel) (iso : Bool) : (failChannel c iso s).doneHoldS = s.doneHoldS := by simp [failChannel]
@[simp] theorem failChannel_probationS (c : Channel) (iso : Bool) : (failChannel c iso s).probationS = s.probationS := by simp [failChannel]
@[simp] theorem failChannel_guardSteps (c : Channel) (iso : Bool) : (failChannel c iso s).guardSteps = s.guardSteps := by simp [failChannel]
@[simp] theorem failChannel_time (c : Channel) (iso : Bool) : (failChannel c iso s).time = s.time := by simp [failChannel]
@[simp] theorem failChannel_lapsing (c : Channel) (iso : Bool) : (failChannel c iso s).lapsing = s.lapsing := by simp [failChannel]

/-! ### miss changes bus, disp, test, queue, withheld, beacon -/

@[simp] theorem miss_pending (c : Channel) : (miss c s).pending = s.pending := by unfold miss; split_ifs <;> [skip; split] <;> simp
@[simp] theorem miss_downBuf (c : Channel) : (miss c s).downBuf = s.downBuf := by unfold miss; split_ifs <;> [skip; split] <;> simp
@[simp] theorem miss_upBuf (c : Channel) : (miss c s).upBuf = s.upBuf := by unfold miss; split_ifs <;> [skip; split] <;> simp
@[simp] theorem miss_dno (c : Channel) : (miss c s).dno = s.dno := by unfold miss; split_ifs <;> [skip; split] <;> simp
@[simp] theorem miss_breakWait (c : Channel) : (miss c s).breakWait = s.breakWait := by unfold miss; split_ifs <;> [skip; split] <;> simp
@[simp] theorem miss_upo (c : Channel) : (miss c s).upo = s.upo := by unfold miss; split_ifs <;> [skip; split] <;> simp
@[simp] theorem miss_lastSource (c : Channel) : (miss c s).lastSource = s.lastSource := by unfold miss; split_ifs <;> [skip; split] <;> simp
@[simp] theorem miss_segNum (c : Channel) : (miss c s).segNum = s.segNum := by unfold miss; split_ifs <;> [skip; split] <;> simp
@[simp] theorem miss_terminal (c : Channel) : (miss c s).terminal = s.terminal := by unfold miss; split_ifs <;> [skip; split] <;> simp
@[simp] theorem miss_dnoRdy (c : Channel) : (miss c s).dnoRdy = s.dnoRdy := by unfold miss; split_ifs <;> [skip; split] <;> simp
@[simp] theorem miss_upoRdy (c : Channel) : (miss c s).upoRdy = s.upoRdy := by unfold miss; split_ifs <;> [skip; split] <;> simp
@[simp] theorem miss_downCheck (c : Channel) : (miss c s).downCheck = s.downCheck := by unfold miss; split_ifs <;> [skip; split] <;> simp
@[simp] theorem miss_downOverrun (c : Channel) : (miss c s).downOverrun = s.downOverrun := by unfold miss; split_ifs <;> [skip; split] <;> simp
@[simp] theorem miss_upCheck (c : Channel) : (miss c s).upCheck = s.upCheck := by unfold miss; split_ifs <;> [skip; split] <;> simp
@[simp] theorem miss_upOverrun (c : Channel) : (miss c s).upOverrun = s.upOverrun := by unfold miss; split_ifs <;> [skip; split] <;> simp
@[simp] theorem miss_ranges (c : Channel) : (miss c s).ranges = s.ranges := by unfold miss; split_ifs <;> [skip; split] <;> simp
@[simp] theorem miss_pool (c : Channel) : (miss c s).pool = s.pool := by unfold miss; split_ifs <;> [skip; split] <;> simp
@[simp] theorem miss_slots (c : Channel) : (miss c s).slots = s.slots := by unfold miss; split_ifs <;> [skip; split] <;> simp
@[simp] theorem miss_lanes (c : Channel) : (miss c s).lanes = s.lanes := by unfold miss; split_ifs <;> [skip; split] <;> simp
@[simp] theorem miss_cursor (c : Channel) : (miss c s).cursor = s.cursor := by unfold miss; split_ifs <;> [skip; split] <;> simp
@[simp] theorem miss_inventory (c : Channel) : (miss c s).inventory = s.inventory := by unfold miss; split_ifs <;> [skip; split] <;> simp
@[simp] theorem miss_exchange (c : Channel) : (miss c s).exchange = s.exchange := by unfold miss; split_ifs <;> [skip; split] <;> simp
@[simp] theorem miss_request (c : Channel) : (miss c s).request = s.request := by unfold miss; split_ifs <;> [skip; split] <;> simp
@[simp] theorem miss_batchLeft (c : Channel) : (miss c s).batchLeft = s.batchLeft := by unfold miss; split_ifs <;> [skip; split] <;> simp
@[simp] theorem miss_head (c : Channel) : (miss c s).head = s.head := by unfold miss; split_ifs <;> [skip; split] <;> simp
@[simp] theorem miss_guard (c : Channel) : (miss c s).guard = s.guard := by unfold miss; split_ifs <;> [skip; split] <;> simp
@[simp] theorem miss_guardLine (c : Channel) : (miss c s).guardLine = s.guardLine := by unfold miss; split_ifs <;> [skip; split] <;> simp
@[simp] theorem miss_guardTimer (c : Channel) : (miss c s).guardTimer = s.guardTimer := by unfold miss; split_ifs <;> [skip; split] <;> simp
@[simp] theorem miss_beaconEnable (c : Channel) : (miss c s).beaconEnable = s.beaconEnable := by unfold miss; split_ifs <;> [skip; split] <;> simp
@[simp] theorem miss_ctrl (c : Channel) : (miss c s).ctrl = s.ctrl := by unfold miss; split_ifs <;> [skip; split] <;> simp
@[simp] theorem miss_settleMs (c : Channel) : (miss c s).settleMs = s.settleMs := by unfold miss; split_ifs <;> [skip; split] <;> simp
@[simp] theorem miss_doneHoldS (c : Channel) : (miss c s).doneHoldS = s.doneHoldS := by unfold miss; split_ifs <;> [skip; split] <;> simp
@[simp] theorem miss_probationS (c : Channel) : (miss c s).probationS = s.probationS := by unfold miss; split_ifs <;> [skip; split] <;> simp
@[simp] theorem miss_guardSteps (c : Channel) : (miss c s).guardSteps = s.guardSteps := by unfold miss; split_ifs <;> [skip; split] <;> simp
@[simp] theorem miss_time (c : Channel) : (miss c s).time = s.time := by unfold miss; split_ifs <;> [skip; split] <;> simp
@[simp] theorem miss_lapsing (c : Channel) : (miss c s).lapsing = s.lapsing := by unfold miss; split_ifs <;> [skip; split] <;> simp

end Sys2Proof.Machine
end

