-- ==== Sys2Proof/Laws/Tables.lean ====
section
/-! SUPPORT. The laws of tables: what a place reads after a change. -/

namespace Sys2Proof.Machine

variable {n : Nat} {α β : Type}

/-- A mapped table reads the map of what it read. -/
@[simp] theorem getElem_mapTab (t : Tab n α) (f : Fin n → α → β) (k : Nat) (h : k < n) :
    (mapTab t f)[k] = f ⟨k, h⟩ t[k] := by
  unfold mapTab
  simp

/-- A changed place reads the change, every other place what it read. -/
theorem getElem_updTab (t : Tab n α) (i : Fin n) (f : α → α) (k : Nat) (h : k < n) :
    (updTab t i f)[k] = if i.val = k then f t[k] else t[k] := by
  unfold updTab
  by_cases e : i.val = k
  · subst e; simp
  · simp [e]

@[simp] theorem getElem_updTab_self (t : Tab n α) (i : Fin n) (f : α → α) :
    (updTab t i f)[i.val] = f t[i.val] := by rw [getElem_updTab]; simp

theorem getElem_updTab_ne (t : Tab n α) {i j : Fin n} (h : i ≠ j) (f : α → α) :
    (updTab t i f)[j.val] = t[j.val] := by
  rw [getElem_updTab, if_neg fun e => h (Fin.ext e)]

/-- Two tables that read alike are the same table. -/
theorem tab_ext {t u : Tab n α} (h : ∀ i : Fin n, t[i] = u[i]) : t = u := by
  apply Vector.ext
  intro i hi
  exact h ⟨i, hi⟩

/-- A map that leaves every place alone leaves the table alone. -/
theorem mapTab_eq_self {t : Tab n α} {f : Fin n → α → α} (h : ∀ i : Fin n, f i t[i] = t[i]) :
    mapTab t f = t := tab_ext fun i => by simpa using h i

/-- Every channel is listed. -/
@[simp] theorem mem_channels (c : Channel) : c ∈ channels := by
  unfold channels
  exact List.mem_finRange c

/-- No channel is listed twice. -/
theorem nodup_channels : channels.Nodup := by
  unfold channels
  exact List.nodup_finRange 64

end Sys2Proof.Machine
end

