-- ==== Sys2Proof/Laws/Ops.lean ====
section
/-! SUPPORT. What each shared operation does, said once: the lemmas that later proofs cite in place of
unfolding the operation. What an operation leaves alone stands in Laws/State.lean. -/

namespace Sys2Proof.Machine

/-! ### Reception (R4) -/

/-- Every kind is read back from its code (R187). -/
@[simp] theorem kindOf_kindCode (k : Kind) : kindOf (kindCode k) = some k := by cases k <;> decide

/-- What it takes for a frame of a kind to pass the first two lines of R4's table. -/
theorem checkDown_good_iff (k : Kind) (rx : RxFrame) :
    checkDown (frameOf (kindCode k) rx) = .good ↔
      rx.payload.length ≤ 88 ∧ sizeAgrees k rx.payload.length = true ∧
        rx.check = crc16 (coveredBytes (frameOf (kindCode k) rx)) := by
  have hk : (frameOf (kindCode k) rx).kind = kindCode k := rfl
  have hp : (frameOf (kindCode k) rx).payload = rx.payload := rfl
  have hc : (frameOf (kindCode k) rx).check = rx.check := rfl
  unfold checkDown checkAgrees
  rw [hk, hp, hc, kindOf_kindCode]
  by_cases h1 : 88 < rx.payload.length
  · simp [Config.maxPayload, h1]
  · by_cases h2 : rx.check = crc16 (coveredBytes (frameOf (kindCode k) rx))
    · by_cases h3 : sizeAgrees k rx.payload.length = true <;> simp [Config.maxPayload, h1, h2, h3] <;> omega
    · simp [Config.maxPayload, h2]

/-- A frame that passes the checks while the buffer has room is handed to its dispatch. -/
theorem receiveDown_accepted {f : Frame} {act : Frame → State → State} {s : State}
    (h : checkDown f = .good) (room : s.downBuf.length < 4) : receiveDown f act s = act f s := by
  simp [receiveDown, h, room, Config.relayRoom]

/-- A frame that passes the checks and finds the buffer full is an overrun. -/
theorem receiveDown_overrun {f : Frame} {act : Frame → State → State} {s : State}
    (h : checkDown f = .good) (full : 4 ≤ s.downBuf.length) :
    receiveDown f act s = countOverrun .down s := by
  simp [receiveDown, h, Config.relayRoom, Nat.not_lt.mpr full]

/-- A frame that fails the checks is a check error. -/
theorem receiveDown_checkError {f : Frame} {act : Frame → State → State} {s : State}
    (h : checkDown f ≠ .good) : receiveDown f act s = countCheck .down s := by
  unfold receiveDown
  split
  · rfl
  · rfl
  · exact absurd ‹_› h

/-- Everything a completed down frame can do: be counted, or be dispatched into a buffer with room. -/
theorem receiveDown_cases (f : Frame) (act : Frame → State → State) (s : State) :
    (checkDown f ≠ .good ∧ receiveDown f act s = countCheck .down s) ∨
    (checkDown f = .good ∧ 4 ≤ s.downBuf.length ∧ receiveDown f act s = countOverrun .down s) ∨
    (checkDown f = .good ∧ s.downBuf.length < 4 ∧ receiveDown f act s = act f s) := by
  by_cases h : checkDown f = .good
  · by_cases room : s.downBuf.length < 4
    · exact .inr (.inr ⟨h, room, receiveDown_accepted h room⟩)
    · exact .inr (.inl ⟨h, Nat.le_of_not_lt room, receiveDown_overrun h (Nat.le_of_not_lt room)⟩)
  · exact .inl ⟨h, receiveDown_checkError h⟩

/-! ### Relaying and reports (R6, R172 to R175) -/

/-- A relayed frame enters the buffer unless the segment is terminal. -/
@[simp] theorem relayDown_downBuf (f : Frame) (s : State) :
    (relayDown f s).downBuf = if s.terminal = true then s.downBuf else s.downBuf ++ [f] := by
  unfold relayDown
  split <;> simp_all

/-- The record that an event makes of a body. -/
@[simp] theorem record_queue (b : ReportBody) (s : State) :
    (record b s).queue = s.queue ++ [{ segment := s.segNum, stamp := s.stamp, body := b }] := rfl

/-- The time stamp is controller time modulo 65536. -/
theorem stamp_eq (s : State) : s.stamp = BitVec.ofNat 16 s.time.toNat := by
  unfold State.stamp
  apply BitVec.eq_of_toNat_eq
  rw [BitVec.toNat_setWidth, BitVec.toNat_ofNat]

/-- An offer is taken in or sets the advisory-withheld mark, by the free places its tier needs. -/
theorem offer_cases (b : ReportBody) (s : State) :
    (placesNeeded b ≤ s.freePlaces ∧ offer b s = record b s) ∨
    (s.freePlaces < placesNeeded b ∧ offer b s = { s with withheld := true }) := by
  unfold offer
  by_cases h : placesNeeded b ≤ s.freePlaces
  · exact .inl ⟨h, if_pos h⟩
  · exact .inr ⟨Nat.lt_of_not_le h, if_neg h⟩

/-- Room for a record of the answer tier. -/
theorem answerRoom_iff (s : State) : s.answerRoom = true ↔ s.queue.length < 32 := by
  show decide (1 ≤ 32 - s.queue.length) = true ↔ _
  rw [decide_eq_true_iff]
  omega

/-- Room for an essential record. -/
theorem essentialRoom_iff (s : State) : s.essentialRoom = true ↔ s.queue.length + 2 ≤ 32 := by
  show decide (2 ≤ 32 - s.queue.length) = true ↔ _
  rw [decide_eq_true_iff]
  omega

/-! ### Addressing and answering (R13, R179) -/

/-- A broadcast is addressed to every segment. -/
theorem addressing_broadcast (s : State) : addressing s 255 = .broadcast := by simp [addressing]

/-- The segment's own number, 1 to 250, addresses it. -/
theorem addressing_here {s : State} {seg : Byte} (h : seg = s.segNum) (lo : 1 ≤ seg.toNat)
    (hi : seg.toNat ≤ 250) : addressing s seg = .here := by
  have h255 : seg ≠ 255 := by
    intro e
    subst e
    simp at hi
  have hs : seg = s.segNum ∧ 1 ≤ seg.toNat ∧ seg.toNat ≤ 250 := ⟨h, lo, hi⟩
  unfold addressing
  rw [if_neg h255, if_pos hs]

/-- An addressed frame that finds answer room in a RUNNING controller is acted on and answered. -/
theorem answerFrame_actedOn {k : Kind} {act : State → State × Answer} {s : State}
    (room : s.queue.length < 32) (run : s.ctrl = .running ∨ k = .askStatus) :
    answerFrame k act s =
      record (.answer k (act s).2.reason (act s).2.failing (act s).2.body) (act s).1 := by
  have h : ¬ (s.ctrl = .starting ∧ k ≠ .askStatus) := by
    rintro ⟨a, b⟩
    rcases run with r | r
    · rw [r] at a
      cases a
    · exact b r
  unfold answerFrame
  rw [if_pos ((answerRoom_iff s).mpr room), if_neg h]

/-- Without answer room nothing is done. -/
theorem answerFrame_full {k : Kind} {act : State → State × Answer} {s : State}
    (full : 32 ≤ s.queue.length) : answerFrame k act s = s := by
  have h : ¬ s.answerRoom = true := by
    rw [answerRoom_iff]
    omega
  unfold answerFrame
  rw [if_neg h]

/-- A STARTING controller answers NOT_READY, but for ASK STATUS. -/
theorem answerFrame_starting {k : Kind} {act : State → State × Answer} {s : State}
    (room : s.queue.length < 32) (start : s.ctrl = .starting) (hk : k ≠ .askStatus) :
    answerFrame k act s = record (.answer k .notReady none .none) s := by
  unfold answerFrame
  rw [if_pos ((answerRoom_iff s).mpr room), if_pos ⟨start, hk⟩]

/-- A management frame that its owning block acts on: one ANSWER, and a relay if it was broadcast. -/
theorem managementFrame_actedOn {k : Kind} {rx : RxFrame} {act : Frame → State → State × Answer} {s : State}
    (good : checkDown (frameOf (kindCode k) rx) = .good) (buf : s.downBuf.length < 4)
    (addr : rx.segment = 255 ∨ rx.segment = s.segNum ∧ 1 ≤ rx.segment.toNat ∧ rx.segment.toNat ≤ 250)
    (room : s.queue.length < 32) (run : s.ctrl = .running ∨ k = .askStatus) :
    managementFrame k rx act s =
      let r := act (frameOf (kindCode k) rx) s
      let t := record (.answer k r.2.reason r.2.failing r.2.body) r.1
      if rx.segment = 255 then relayDown (frameOf (kindCode k) rx) t else t := by
  unfold managementFrame
  rw [receiveDown_accepted good buf]
  unfold dispatchManagement
  have hs : (frameOf (kindCode k) rx).segment = rx.segment := rfl
  rw [hs]
  by_cases b : rx.segment = 255
  · rw [b, addressing_broadcast]
    simp only [answerFrame_actedOn room run, if_pos trivial]
  · rcases addr with a | ⟨a, lo, hi⟩
    · exact absurd a b
    · rw [addressing_here a lo hi]
      simp only [answerFrame_actedOn room run, if_neg b]

/-! ### Task frames (R11, R12) -/

/-- A segment owns a location exactly while RUNNING and a BLOCK entry governs it. -/
theorem ownedBy_eq_some {s : State} {loc : Location} {i : EntryNo} {c : Channel} :
    ownedBy s loc = some (i, c) ↔ s.ctrl = .running ∧ matchLocation s.ranges loc = .block i c := by
  unfold ownedBy
  by_cases h : s.ctrl = .running
  · rw [if_pos h]
    cases e : matchLocation s.ranges loc <;> simp [h]
  · rw [if_neg h]
    simp [h]

/-- An unmarked frame of an own location is acted on and relayed marked, where R12's room is there. -/
theorem claimFrame_claimed {k : Kind} {tag : Tag} {loc : Location} {room : Bool}
    {act : EntryNo → Channel → State → State} {f : Frame} {s : State} {i : EntryNo} {c : Channel}
    (own : ownedBy s loc = some (i, c)) (clear : claimMark f = false) (hr : room = true) :
    claimFrame k tag loc room act f s = relayDown (markClaimed f) (act i c s) := by
  unfold claimFrame
  simp [own, clear, hr]

/-- A marked frame of an own location offers DOUBLE_CLAIM and passes. -/
theorem claimFrame_marked {k : Kind} {tag : Tag} {loc : Location} {room : Bool}
    {act : EntryNo → Channel → State → State} {f : Frame} {s : State} {i : EntryNo} {c : Channel}
    (own : ownedBy s loc = some (i, c)) (marked : claimMark f = true) :
    claimFrame k tag loc room act f s = relayDown f (offer (.doubleClaim tag loc) s) := by
  unfold claimFrame
  simp [own, marked]

/-- A frame of another location passes. -/
theorem claimFrame_elsewhere {k : Kind} {tag : Tag} {loc : Location} {room : Bool}
    {act : EntryNo → Channel → State → State} {f : Frame} {s : State}
    (other : ownedBy s loc = none) : claimFrame k tag loc room act f s = passFrame k tag loc f s := by
  unfold claimFrame
  simp [other]

/-! ### Controller time and settle windows (R48, R50) -/

/-- A time is before an end time up to 2,147,483,648 units ahead of it. -/
theorem before_ahead (t : Time) {n : Nat} (h : n ≤ 2147483648) : before t (ahead t n) = decide (1 ≤ n) := by
  have e : ahead t n - t = BitVec.ofNat 32 n := by
    unfold ahead
    rw [BitVec.add_comm, BitVec.add_sub_cancel]
  have lt : n < 2 ^ 32 := by omega
  simp only [before, e, BitVec.toNat_ofNat, Nat.mod_eq_of_lt lt]
  by_cases h1 : 1 ≤ n <;> simp [h1, h]

/-- No time is before itself. -/
@[simp] theorem before_self (t : Time) : before t t = false := by simp [before]

/-- Starting a settle window changes the settle end and its passed mark alone. -/
@[simp] theorem startSettle_waitBlinkEnd (t : Time) (n : Nat) (d : DisplayRec) :
    (startSettle t n d).waitBlinkEnd = d.waitBlinkEnd := by
  simp only [startSettle]
  split
  · rfl
  · split <;> rfl

@[simp] theorem startSettle_lastSent (t : Time) (n : Nat) (d : DisplayRec) :
    (startSettle t n d).lastSent = d.lastSent := by
  simp only [startSettle]
  split
  · rfl
  · split <;> rfl

@[simp] theorem startSettle_dirty (t : Time) (n : Nat) (d : DisplayRec) :
    (startSettle t n d).dirty = d.dirty := by
  simp only [startSettle]
  split
  · rfl
  · split <;> rfl

/-- A window started when none is open runs for exactly the units given. -/
theorem startSettle_passed {t : Time} {n : Nat} {d : DisplayRec} (h : d.settlePassed = true) :
    startSettle t n d = { d with settleEnd := ahead t n, settlePassed := !before t (ahead t n) } := by
  unfold startSettle
  rw [if_pos h]

/-! ### Finding and changing tasks (R56) -/

/-- The record found carries the tag and is live. -/
theorem findTag_some {pool : List Task} {tag : Tag} {t : Task} (h : findTag pool tag = some t) :
    t ∈ pool ∧ t.tag = tag := by
  unfold findTag at h
  exact ⟨List.mem_of_find?_eq_some h, by simpa using List.find?_some h⟩

/-- No record is found exactly when none carries the tag. -/
theorem findTag_none {pool : List Task} {tag : Tag} :
    findTag pool tag = none ↔ ∀ t ∈ pool, t.tag ≠ tag := by
  unfold findTag
  simp [List.find?_eq_none]

/-- Where no two records share a tag, a live record is the one its tag finds. -/
theorem findTag_of_mem {pool : List Task} (nodup : (pool.map (·.tag)).Nodup) {t : Task} (h : t ∈ pool) :
    findTag pool t.tag = some t := by
  induction pool with
  | nil => cases h
  | cons x xs ih =>
    simp only [List.map_cons, List.nodup_cons] at nodup
    unfold findTag at ih ⊢
    rcases List.mem_cons.mp h with e | e
    · subst e
      simp
    · have ne : x.tag ≠ t.tag := by
        intro eq
        exact nodup.1 (eq ▸ List.mem_map_of_mem (f := fun y : Task => y.tag) e)
      rw [List.find?_cons_of_neg (by simpa using ne)]
      exact ih nodup.2 e

/-- An edit by tag keeps the tags of the pool. -/
theorem editTask_tags {tag : Tag} {f : Task → Task} (keep : ∀ t, (f t).tag = t.tag) (pool : List Task) :
    (editTask tag f pool).map (·.tag) = pool.map (·.tag) := by
  unfold editTask
  rw [List.map_map]
  apply List.map_congr_left
  intro t _
  simp only [Function.comp_apply]
  split
  · exact keep t
  · rfl

/-! ### Slot lists (R60, R82 to R85) -/

/-- Joining a list behind its first entry lengthens it by one. -/
theorem length_insertWaiting (pool : List Task) (u : Nat) (tag : Tag) (l : List Tag) :
    (insertWaiting pool u tag l).length = l.length + 1 := by
  induction l with
  | nil => rfl
  | cons x xs ih =>
    unfold insertWaiting
    split
    · rfl
    · simp [ih]

/-- Joining a list lengthens it by one. -/
theorem length_insertSlot (pool : List Task) (u : Nat) (tag : Tag) (l : List Tag) :
    (insertSlot pool u tag l).length = l.length + 1 := by
  cases l with
  | nil => rfl
  | cons x xs => simp [insertSlot, length_insertWaiting]

/-- A list gains exactly the tag that joins it. -/
theorem perm_insertWaiting (pool : List Task) (u : Nat) (tag : Tag) (l : List Tag) :
    (insertWaiting pool u tag l).Perm (tag :: l) := by
  induction l with
  | nil => exact .refl _
  | cons x xs ih =>
    unfold insertWaiting
    split
    · exact .refl _
    · exact (ih.cons x).trans (.swap tag x xs)

/-- A list gains exactly the tag that joins it, and its first entry is not displaced. -/
theorem perm_insertSlot (pool : List Task) (u : Nat) (tag : Tag) (l : List Tag) :
    (insertSlot pool u tag l).Perm (tag :: l) := by
  cases l with
  | nil => exact .refl _
  | cons x xs => exact ((perm_insertWaiting pool u tag xs).cons x).trans (.swap tag x xs)

/-- The first entry of a list that is not empty stays first (R84). -/
theorem head_insertSlot (pool : List Task) (u : Nat) (tag : Tag) {l : List Tag} (h : l ≠ []) :
    (insertSlot pool u tag l).head? = l.head? := by
  cases l with
  | nil => exact absurd rfl h
  | cons x xs => rfl

/-- What an event that changes pool and lists leaves in them. -/
@[simp] theorem restand_pool (pool : List Task) (slots : Tab 64 (List Tag)) (s : State) :
    (restand pool slots s).pool = promote slots pool := rfl

@[simp] theorem restand_slots (pool : List Task) (slots : Tab 64 (List Tag)) (s : State) :
    (restand pool slots s).slots = slots := rfl

/-- A channel has a head change exactly where its first entry differs (R60). -/
theorem restand_disp (pool : List Task) (slots : Tab 64 (List Tag)) (s : State) (c : Channel) :
    (restand pool slots s).disp[c] =
      if s.slots[c].head? = slots[c].head? then s.disp[c]
      else headChange s.time s.settleUnits slots[c].isEmpty s.disp[c] := by
  show (mapTab s.disp _)[c.val] = _
  rw [getElem_mapTab]
  rfl

/-! ### Holds, misses, key readings (R118, R144, R157) -/

/-- The hold set given is the hold set held. -/
@[simp] theorem setHold_head (h g : Bool) (s : State) : (setHold h g s).head = h := by
  unfold setHold
  split
  · rfl
  · split <;> simp

@[simp] theorem setHold_guard (h g : Bool) (s : State) : (setHold h g s).guard = g := by
  unfold setHold
  split
  · rfl
  · split <;> simp

/-- Everything a silent exchange can do to its channel (R144). -/
theorem miss_cases (c : Channel) (s : State) :
    (s.bus[c].misses + 1 < 3 ∧ miss c s = onBus c (fun b => { b with misses := b.misses + 1 }) s) ∨
    (3 ≤ s.bus[c].misses + 1 ∧ s.bus[c].presence = .present ∧
      miss c s = failChannel c s.bus[c].probation.isSome s) ∨
    (3 ≤ s.bus[c].misses + 1 ∧ s.bus[c].presence = .reviving ∧ miss c s = failChannel c true s) ∨
    (3 ≤ s.bus[c].misses + 1 ∧ s.bus[c].presence ≠ .present ∧ s.bus[c].presence ≠ .reviving ∧
      miss c s = onBus c (fun b => { b with misses := 0 }) s) := by
  unfold miss
  by_cases h : s.bus[c].misses + 1 < 3
  · exact .inl ⟨h, if_pos h⟩
  · have h3 : 3 ≤ s.bus[c].misses + 1 := Nat.le_of_not_lt h
    rw [if_neg h]
    refine .inr ?_
    cases p : s.bus[c].presence
    · exact .inr (.inr ⟨h3, by simp, by simp, by rfl⟩)
    · exact .inl ⟨h3, rfl, rfl⟩
    · exact .inr (.inr ⟨h3, by simp, by simp, by rfl⟩)
    · exact .inr (.inl ⟨h3, rfl, rfl⟩)
    · exact .inr (.inr ⟨h3, by simp, by simp, by rfl⟩)

/-- A reading makes a press exactly when the key was settled UP, was read DOWN and is read DOWN again. -/
theorem makesPress_iff (k : KeyLevel) (h : KeyHistory) :
    makesPress k h = true ↔ h.settled = some .up ∧ h.latest = some .down ∧ k = .down := by
  rcases h with ⟨e, l, d⟩
  rcases e with _ | _ | _ <;> rcases l with _ | _ | _ <;> rcases d with _ | _ | _ <;> cases k <;> decide

/-! ### Counts (R51, R52) -/

/-- A remaining time runs exactly while the four conditions of R51 hold. -/
theorem countsDown_iff (s : State) (t : Task) :
    s.countsDown t = true ↔ t.state = .showing ∧ (s.head = false ∧ s.guard = false ∧ s.test = none) ∧
      s.bus[t.channel].presence = .present := by
  simp [State.countsDown, State.frozen, State.held, State.isPresent, and_assoc]

/-- An advance never raises a count, and never takes it to 0. -/
theorem lowered_le (n : Nat) : lowered n ≤ n := by unfold lowered; split <;> omega

theorem lowered_eq_zero (n : Nat) : lowered n = 0 ↔ n = 0 := by unfold lowered; split <;> omega

/-- A deadline is due exactly when its task is SHOWING at its last unit and its tag is among the lapsing ones. -/
theorem deadlineDue_iff (s : State) (t : Task) :
    s.deadlineDue t = true ↔ t.state = .showing ∧ t.remaining = some 1 ∧ t.tag ∈ s.lapsing := by
  simp [State.deadlineDue, and_assoc]

/-- Every deadline that runs and stands at its last unit is among the lapsing ones after the advance. -/
theorem mem_lapsingNext (s : State) (tag : Tag) :
    tag ∈ lapsingNext s ↔
      ∃ t ∈ s.pool, (s.countsDown t = true ∧ t.remaining = some 1 ∨ t.state = .done ∧ t.doneHold = some 1) ∧
        t.tag = tag := by
  simp [lapsingNext, State.deadlineAtLast, Task.holdAtLast, and_assoc]

/-- A done hold is due exactly when it stands at its last unit and its tag is among the lapsing ones. -/
theorem holdDue_iff (s : State) (t : Task) :
    s.holdDue t = true ↔ t.state = .done ∧ t.doneHold = some 1 ∧ t.tag ∈ s.lapsing := by
  simp [State.holdDue, Task.holdAtLast, and_assoc]

/-! ### Beacon (R168) -/

/-- The beacon condition in words. -/
theorem beaconCondition_iff (s : State) :
    s.beaconCondition = true ↔
      (∃ t ∈ s.pool, t.state = .showing ∧ t.expired = true) ∨
        ∃ c : Channel, s.bus[c].presence = .faulted ∨ s.bus[c].presence = .isolated := by
  simp [State.beaconCondition, Task.lateShowing, Presence.failed]

/-- After the condition is looked at, the beacon is what it and the enable give. -/
theorem evalBeacon_beacon (s : State) : (evalBeacon s).beacon = (s.beaconEnable && s.beaconCondition) := rfl

end Sys2Proof.Machine
end

