-- ==== Sys2Proof/Tests/Slice0.lean ====
section
/-! SUPPORT. Tests of single commands against values of the spec, the smoke test of WellFormed, and for
every statement that has hypotheses a state that meets them. -/

namespace Sys2Proof.Tests

set_option Elab.async false

open Sys2Proof Sys2Proof.Machine

/-! ### Helpers -/

/-- A received frame of a kind code with a check word that agrees. -/
def good (code flags segment : Byte) (payload : List Byte) : RxFrame :=
  { flags := flags, segment := segment, payload := payload,
    check := crc16 (code :: BitVec.ofNat 8 payload.length :: flags :: segment :: payload) }

/-- A received frame of a kind with a check word that agrees. -/
def rx (k : Kind) (segment : Byte) (payload : List Byte) : RxFrame := good (kindCode k) 0 segment payload

/-- The same with its claim mark set. -/
def rxMarked (k : Kind) (payload : List Byte) : RxFrame := good (kindCode k) 1 0 payload

/-- What a command leaves, seen through f; none where it stops. -/
def obs {α : Type} (i : Instr) (s : State) (f : State → α) : Option α :=
  match exec i s with
  | .next t => some (f t)
  | _ => none

/-- The bodies of the report queue. -/
def bodies (s : State) : List ReportBody := s.queue.map (·.body)

/-- A SHOWING or QUEUED record. -/
def listed (tag : Tag) (c : Channel) (lane : LaneNo) (q : Nat) (st : TaskState) : Task :=
  { tag := tag, loc := ⟨20, 0, c.val⟩, channel := c, lane := lane, urgency := 0, q := q, a := q, adjusted := false,
    deadline := 0, remaining := none, expired := false, state := st, picked := none, doneHold := none,
    origin := none }

/-- A DONE record with its done hold running. -/
def picked (tag : Tag) (c : Channel) (q p hold : Nat) : Task :=
  { listed tag c 0 q .done with a := p, picked := some p, doneHold := some hold }

/-- A BLOCK entry in NORMAL order with all permissions. -/
def block (bayLo bayHi levLo levHi posLo posHi base : Nat) : RangeEntry :=
  { RangeEntry.reset with
    mode := .block, bayLo := bayLo, bayHi := bayHi, levLo := levLo, levHi := levHi, posLo := posLo,
    posHi := posHi, base := base, permPost := true, permRun := true, permTest := true }

/-- A PRESENT channel with a FULL three-digit module with both keys. -/
def lit : BusRec := { BusRec.powerOn with presence := .present, caps := some ⟨3, .full, true, 7⟩ }

/-- Segment 3, RUNNING, not terminal, all lanes enabled, every channel PRESENT; location (20, 0, p) is
channel p through entry 2. -/
def base : State :=
  { State.reset with
    ctrl := .running, terminal := false, segNum := 3, time := 4100,
    ranges := State.reset.ranges.set 2 (block 20 20 0 0 0 63 0),
    lanes := Vector.replicate 8 ⟨true, .yellow, .steady⟩,
    bus := Vector.replicate 64 lit }

/-- base with tags 210 and 211 listed on channel 8, 77 on channel 40, and 500 DONE on channel 9. -/
def busy : State :=
  { base with
    pool := [listed 210 8 1 5 .showing, listed 211 8 2 2 .queued, listed 77 40 3 4 .showing, picked 500 9 6 4 1],
    slots := (base.slots.set 8 [210, 211]).set 40 [77], lapsing := [500] }

/-- n records in the report queue. -/
def queued (n : Nat) (s : State) : State :=
  { s with queue := List.replicate n { segment := 3, stamp := 0, body := .enumEnd 3 } }

/-- n frames in the down relay buffer. -/
def buffered (n : Nat) (s : State) : State :=
  { s with downBuf := List.replicate n (frameOf 0x70 (good 0x70 0 0 [1])) }

/-- A POLL of a channel in flight, both keys held once after being settled UP. -/
def polling (c : Channel) (s : State) : State :=
  { s with
    exchange := some (.poll c),
    bus := s.bus.set c { s.bus[c] with
      confirmKey := ⟨some .up, some .down, some .up⟩, adjustKey := ⟨some .up, some .down, some .up⟩ } }

/-- An answer to a POLL with a key byte. -/
def pollAnswer (c : Channel) (keys : Byte) : List Byte := withCheckByte [BitVec.ofNat 8 c.val, keys]

/-- An answer to a DESCRIBE. -/
def describeAnswer (c : Channel) (digits colour adjust : Byte) : List Byte :=
  withCheckByte [BitVec.ofNat 8 (128 + c.val), digits, colour, adjust, 7]

/-- An acknowledgement of a SHOW. -/
def ack (c : Channel) : List Byte := withCheckByte [BitVec.ofNat 8 (64 + c.val)]

/-- A POST of a tag at (20, 0, pos). -/
def postAt (tag : Tag) (pos : Nat) (task : Byte) (q : Nat) (d : Byte) : List Byte :=
  wordBytes tag ++ locationBytes ⟨20, 0, pos⟩ ++ [task] ++ numBytes q ++ [d]

/-- tag and location (20, 0, pos), with further bytes. -/
def tagAt (tag : Tag) (pos : Nat) (more : List Byte) : List Byte :=
  wordBytes tag ++ locationBytes ⟨20, 0, pos⟩ ++ more

/-- A range entry as a RANGES frame carries it. -/
def entryBytes (bayLo bayHi : Nat) (rest : List Byte) : List Byte := numBytes bayLo ++ numBytes bayHi ++ rest

/-- A RANGES payload of one entry. -/
def oneEntry (first : Byte) (bayLo bayHi : Nat) (rest : List Byte) : List Byte :=
  first :: entryBytes bayLo bayHi rest

/-! ### WellFormed refuses an ill-formed term of every check -/

/-- Each frame row refuses a wrong size and a wrong check word, and takes a right one. -/
theorem test_wf_frames :
    ([(.post, 9), (.run, 10), (.amend, 7), (.withdraw, 5), (.release, 5), (.enumerate, 1), (.setup, 6), (.lanes, 2),
      (.ranges, 11), (.lock, 0), (.purge, 1), (.sweep, 1), (.hold, 0), (.resume, 0), (.revive, 2), (.test, 2),
      (.askStatus, 0), (.askSlot, 1), (.askTask, 2)] : List (Kind × Nat)).all
      (fun x =>
        wf (frameCommand x.1 (rx x.1 0 (List.replicate x.2 0))) &&
        !wf (frameCommand x.1 (rx x.1 0 (List.replicate 89 0))) &&
        !wf (frameCommand x.1 { rx x.1 0 (List.replicate x.2 0) with check := 0 })) = true := by decide +kernel

theorem test_wf_discarded :
    wf (.discardedFrame .down 0x10 (good 0x10 0 0 (List.replicate 88 0))) = true ∧
    wf (.discardedFrame .down 0x10 (good 0x10 0 0 (List.replicate 89 0))) = false := by decide +kernel

theorem test_wf_unknown :
    wf (.unknownKindFrame 0x60 (good 0x60 0 0 [])) = true ∧ wf (.unknownKindFrame 0x10 (rx .post 0 [])) = false ∧
    wf (.unknownKindFrame 0x60 { good 0x60 0 0 [] with check := 0 }) = false := by decide +kernel

theorem test_wf_up_frame :
    wf (.upFrameAccepted 0x60 (good 0x60 0 3 [2, 0, 0, 3])) = true ∧
    wf (.upFrameAccepted 0x60 (good 0x60 0 3 [2, 0, 0])) = false ∧
    wf (.upFrameAccepted 0x60 (good 0x60 0 3 [])) = false := by decide +kernel

theorem test_wf_answers :
    wf (.pollAnswered (pollAnswer 8 1)) = true ∧ wf (.pollAnswered (ack 8)) = false ∧
    wf (.showAcknowledged (ack 8)) = true ∧ wf (.showAcknowledged [0x48, 0]) = false := by decide +kernel

theorem test_wf_describe :
    wf (.describeAnswered (describeAnswer 63 4 1 1)) = true ∧ wf (.describeAnswered (describeAnswer 63 5 1 1)) = false ∧
    wf (.describeAnswered (describeAnswer 63 1 1 1)) = false ∧
    wf (.inventoryAnswered (describeAnswer 0 2 2 1)) = false ∧
    wf (.inventoryAnswered (describeAnswer 0 2 0 2)) = false := by decide +kernel

/-! ### Layouts and check words -/

/-- The values both polynomials are known by, over the bytes 31h to 39h (R186, R192). -/
theorem test_check_words :
    crc16 [0x31, 0x32, 0x33, 0x34, 0x35, 0x36, 0x37, 0x38, 0x39] = 0x29B1 ∧
    crc8 [0x31, 0x32, 0x33, 0x34, 0x35, 0x36, 0x37, 0x38, 0x39] = 0xF4 := by decide +kernel

/-- The table rows carry no bits, so no word spells a command. -/
theorem test_no_word_spells_a_command : decodeTableWord 8 0x10 = none := rfl

/-- Section 3.1, Worked case: one entry, four orders. -/
theorem test_channels_of_four_orders :
    [PosOrder.normal, .reversed, .serpentine, .serpentineReversed].map (fun o =>
      [(⟨12, 0, 2⟩ : Location), ⟨12, 1, 2⟩, ⟨13, 2, 4⟩, ⟨13, 3, 4⟩].map fun l =>
        (mapChannel { block 12 13 0 3 1 6 16 with order := o } l).val) =
      [[17, 23, 55, 61], [20, 26, 54, 60], [17, 26, 55, 60], [20, 23, 54, 61]] := by decide +kernel

/-- Section 12.3: the content record. ON, BLUE, FAST, NUMBER 12 without a mark. -/
theorem test_content_bytes :
    contentBytes { lamp := some ⟨.blue, .fast⟩, digits := .number 12 false } = [0xA2, 0x01, 0x00, 0x0C] ∧
    contentBytes { lamp := none, digits := .bars } = [0x00, 0x03, 0x00, 0x00] := by decide +kernel

/-! ### Resets and the string port -/

/-- R9: a string reset keeps time and makes REVIVING FAULTED. -/
theorem test_break_running :
    obs (.lineBreak true false) { busy with bus := base.bus.set 5 { lit with presence := .reviving } }
      (fun t => (t.time, t.pool, t.bus[5].presence, t.bus[6].presence, t.dno)) =
      some (4100, [], .faulted, .present, .spacing) := by decide +kernel

/-- R9: while STARTING a break is a power-on reset. -/
theorem test_break_starting :
    obs (.lineBreak false true) { base with ctrl := .starting, inventory := 9 }
      (fun t => (t.time, t.inventory, t.bus[6].presence, t.guard)) = some (0, 0, .absent, true) := by decide +kernel

theorem test_power_on_reset :
    obs (.powerOnReset true false) busy (fun t => (t.ctrl, t.time, t.settleMs, t.segNum, t.terminal)) =
      some (.starting, 0, 300, 0, true) := by decide +kernel

theorem test_break_relay_ends_once :
    obs .breakRelayEnd { base with dno := .spacing, breakWait := true } (fun t => (t.dno, t.breakWait)) =
      some (.idle, false) ∧ obs .breakRelayEnd base (·.dno) = none := by decide +kernel

theorem test_terminal_empties_the_buffer :
    obs (.terminalStatusChange true) (buffered 2 base) (fun t => (t.terminal, t.downBuf)) = some (true, []) := by
  decide +kernel

/-- R5: a count holds at 255. -/
theorem test_early_discard_holds_at_255 :
    obs (.frameEarlyDiscard .down .lengthOver) { base with downCheck := 255 } (·.downCheck) = some 255 ∧
    obs (.frameEarlyDiscard .up .markingGap) base (·.upCheck) = some 1 := by decide +kernel

/-- R4: the check word is looked at before the room. -/
theorem test_discarded_frame :
    obs (.discardedFrame .down 0x10 { rx .post 0 (postAt 1 0 0 1 0) with check := 0 }) (buffered 4 base)
      (fun t => (t.downCheck, t.downOverrun)) = some (1, 0) ∧
    obs (.discardedFrame .down 0x10 (rx .post 0 (postAt 1 0 0 1 0))) (buffered 4 base)
      (fun t => (t.downCheck, t.downOverrun)) = some (0, 1) := by decide +kernel

/-- R4: the report kind is unknown on the down lane. -/
theorem test_report_kind_relayed_down :
    obs (.unknownKindFrame 0x60 (good 0x60 0x81 9 [1])) base (fun t => t.downBuf.map (·.flags)) = some [0x81] := by
  decide +kernel

theorem test_upi_spacing_resets_nothing : obs .upiSpacing busy (fun t => decide (t = busy)) = some true := by
  decide +kernel

theorem test_up_frame_enters_the_buffer :
    obs (.upFrameAccepted 0x60 (good 0x60 0 9 [2, 0, 0, 3])) base (fun t => t.upBuf.map (·.segment)) = some [9] ∧
    obs (.upFrameAccepted 0x60 (good 0x60 0 9 [2, 0, 0, 3])) { base with terminal := true } (·.upBuf) = some [] := by
  decide +kernel

theorem test_down_relay :
    obs (.downRelayStart true) (buffered 2 base) (fun t => (t.dno == .idle, t.downBuf.length)) = some (false, 2) ∧
    obs .downRelayComplete { buffered 2 base with dno := .sending (frameOf 0x70 (good 0x70 0 0 [1])) }
      (fun t => (t.dno, t.downBuf.length)) = some (.idle, 1) := by decide +kernel

/-- R17: the first contested grant after a reset goes to the report queue. -/
theorem test_first_grant_to_the_queue :
    obs (.upMergeGrant true) { queued 1 base with upBuf := [frameOf 0x60 (good 0x60 0 9 [2, 0, 0, 3])] }
      (fun t => (t.upo.map (·.source), t.lastSource, t.queue.length)) = some (some .queue, .queue, 1) := by
  decide +kernel

theorem test_report_sent :
    obs .reportFrameSent { queued 2 base with upo := some ⟨.queue, frameOf 0x60 (good 0x60 0 9 [])⟩ }
      (fun t => (t.upo, t.queue.length)) = some (none, 1) ∧ obs .reportFrameSent base (·.upo) = none := by
  decide +kernel

theorem test_up_relay_complete :
    obs .upRelayComplete
      { base with
        upBuf := [frameOf 0x60 (good 0x60 0 9 [])], upo := some ⟨.relay, frameOf 0x60 (good 0x60 0 9 [])⟩ }
      (fun t => (t.upo, t.upBuf)) = some (none, []) := by decide +kernel

/-- Section 1.7, Worked example: numbering an aisle. N = 250 is taken and relayed as 251. -/
theorem test_enumerate_250 :
    obs (.enumerate (rx .enumerate 255 [250])) base (fun t => (t.segNum, t.downBuf.map (·.payload))) =
      some (250, [[251]]) := by decide +kernel

/-- The terminal that meets N = 251 takes 0 and reports 250. -/
theorem test_enumerate_251_at_the_terminal :
    obs (.enumerate (rx .enumerate 255 [251])) { base with terminal := true }
      (fun t => (t.segNum, t.downBuf, bodies t)) = some (0, [], [.enumEnd 250]) := by decide +kernel

/-! ### Task frames -/

/-- Section 5.1: T5 of urgency 2 goes behind T3 of urgency 3 and ahead of T2 of urgency 1. -/
theorem test_post_by_urgency :
    obs (.post (rx .post 0 (postAt 5 30 0x50 1 0)))
      { base with
        pool := [listed 1 30 0 1 .showing, { listed 3 30 0 1 .queued with urgency := 3 },
                 { listed 2 30 1 1 .queued with urgency := 1 }, { listed 4 30 1 1 .queued with urgency := 1 }],
        slots := base.slots.set 30 [1, 3, 2, 4] }
      (fun t => (t.slots[30], t.downBuf.map (·.flags))) = some ([1, 3, 5, 2, 4], [1]) := by decide +kernel

theorem test_post_shows_in_an_empty_list :
    obs (.post (rx .post 0 (postAt 9 12 0xE0 9999 255))) base
      (fun t => (t.pool.map (fun x => (x.state, x.lane.val)), t.pool.map (·.remaining), t.disp[12].settleEnd)) =
      some ([(.showing, 7)], [some 25500], 4130) := by decide +kernel

/-- Section 3.2, Worked case: an ascending run across a bay boundary. -/
theorem test_run_across_a_bay :
    obs (.run (rx .run 0 ([0x02, 0xF6] ++ locationBytes ⟨12, 3, 5⟩ ++ [0x00, 4, 0, 0, 5])))
      { base with ranges := base.ranges.set 3 { block 12 13 0 3 1 6 16 with order := .serpentine } }
      (fun t => (t.pool.map (fun x => (x.channel.val, x.tag.toNat)), bodies t)) =
      some ([(35, 758), (34, 759), (40, 760), (41, 761)], [.runDone 758 4 .complete ⟨13, 0, 2⟩]) := by
  decide +kernel

/-- Section 6.6, Worked example: one run, three termination modes; here SKIP_IF_OCCUPIED (run byte 4Dh). -/
theorem test_run_skips :
    obs (.run (rx .run 0 ([0x01, 0xF4] ++ locationBytes ⟨8, 0, 1⟩ ++ [0x4D, 5, 0, 0, 4, 0, 7, 0, 2, 0, 9, 0, 1])))
      { base with
        ranges := (State.reset.ranges.set 0 { block 8 8 0 0 2 2 0 with mode := .shadow }).set 2 (block 8 8 0 1 0 3 40),
        bus := (base.bus.set 44 { lit with presence := .isolated }).set 46 { lit with presence := .faulted },
        pool := [listed 300 45 3 1 .showing], slots := base.slots.set 45 [300] }
      (fun t => ((t.pool.drop 1).map fun x => (x.tag.toNat, x.channel.val, x.q), bodies t)) =
      some ([(500, 41, 4), (501, 43, 7), (502, 46, 2), (503, 47, 9)], [.runDone 500 4 .rangeEnd ⟨8, 1, 3⟩]) := by
  decide +kernel

/-- Section 3.3, Worked case: a short pick on a two-digit module; the two AMENDs after 60 adjust presses. -/
theorem test_amend_after_adjustment :
    ([200, 80] : List Nat).map (fun q =>
      obs (.amend (rx .amend 0 (tagAt 7 9 (numBytes q))))
        { base with
          pool := [{ listed 7 9 0 150 .showing with a := 90, adjusted := true }], slots := base.slots.set 9 [7] }
        (fun t => t.pool.map fun x => (x.q, x.a))) = [some [(200, 90)], some [(80, 80)]] := by decide +kernel

/-- Section 7.5: the WITHDRAW of the SHOWING tag 210 at 4100. -/
theorem test_withdraw_showing :
    obs (.withdraw (rx .withdraw 0 (tagAt 210 8 []))) busy
      (fun t => (t.slots[8], t.disp[8].settleEnd, bodies t)) = some ([211], 4130, []) := by decide +kernel

/-- R72: a late withdrawal returns the picked quantity. -/
theorem test_late_withdraw :
    obs (.withdraw (rx .withdraw 0 (tagAt 500 9 []))) busy (fun t => (t.pool.length, bodies t)) =
      some (3, [.lateWithdraw 500 ⟨20, 0, 9⟩ 9 0 6 4]) := by decide +kernel

theorem test_release_done_and_showing :
    obs (.release (rx .release 0 (tagAt 500 9 []))) busy (fun t => (t.pool.length, bodies t)) = some (3, []) ∧
    obs (.release (rx .release 0 (tagAt 210 8 []))) busy (fun t => (t.pool.length, bodies t)) =
      some (4, [.refused .release 210 ⟨20, 0, 8⟩ 8 .notDone]) := by decide +kernel

/-! ### Management frames -/

/-- Section 11.2, Worked example: clamped values. -/
theorem test_setup_clamps :
    obs (.setup (rx .setup 3 (numBytes 3000 ++ [0, 5, 150, 1])))
      { base with bus := base.bus.set 11 { lit with presence := .faulted } } (fun t => (t.beacon, bodies t)) =
      some (true, [.answer .setup .ok none (.setup ⟨2550, 1, 10, 100, true⟩)]) := by decide +kernel

theorem test_setup_rounds_down :
    obs (.setup (rx .setup 3 (numBytes 2555 ++ [255, 255, 0, 0]))) base
      (fun t => (t.settleMs, t.doneHoldS, t.probationS, t.guardSteps)) = some (2550, 255, 255, 0) ∧
    obs (.setup (rx .setup 3 (numBytes 339 ++ [255, 255, 0, 0]))) base (·.settleMs) = some 330 := by decide +kernel

/-- R62: the window goes on from lane 7 to lane 0. -/
theorem test_lanes_wrap :
    obs (.lanes (rx .lanes 3 [7, 0xE1, 0x90])) base (fun t => (t.lanes[7], t.lanes[0], t.lanes[1])) =
      some (⟨true, .white, .slow⟩, ⟨true, .green, .steady⟩, ⟨true, .yellow, .steady⟩) := by decide +kernel

theorem test_lanes_busy :
    obs (.lanes (rx .lanes 3 [1, 0x00])) busy bodies = some [.answer .lanes .laneBusy (some 1) .none] := by
  decide +kernel

/-- R41: a span of 4096 is refused, and never taken as a smaller one. -/
theorem test_ranges_large_span :
    obs (.ranges (rx .ranges 3 (oneEntry 3 0 4095 [0, 0, 0, 0, 0, 0x47]))) base (fun t => (t.ranges[3].mode, bodies t)) =
      some (.off, [.answer .ranges .badEntry (some 3) .none]) := by decide +kernel

theorem test_ranges_load :
    obs (.ranges (rx .ranges 3 (oneEntry 2 12 13 [0, 3, 1, 6, 16, 0x56]))) base
      (fun t => (t.ranges[2], bodies t)) =
      some ({ block 12 13 0 3 1 6 16 with order := .serpentine, permTest := false },
            [.answer .ranges .ok none .none]) := by decide +kernel

theorem test_lock_bad_index :
    obs (.lock (rx .lock 3 [1, 16, 17])) base (fun t => (t.ranges[1].locked, bodies t)) =
      some (false, [.answer .lock .badEntry (some 16) .none]) := by decide +kernel

theorem test_lock_all : obs (.lock (rx .lock 3 [])) base (fun t => t.ranges.toList.all (·.locked)) = some true := by
  decide +kernel

theorem test_purge :
    obs (.purge (rx .purge 3 [2])) busy (fun t => (t.pool.map (·.tag), t.slots[8], bodies t)) =
      some ([500], [], [.answer .purge .ok none (.count 3)]) := by decide +kernel

theorem test_sweep_lane :
    obs (.sweep (rx .sweep 3 [1])) busy (fun t => (t.slots[8], t.disp[8].settleEnd, bodies t)) =
      some ([211], 4130, [.answer .sweep .ok none (.count 1)]) := by decide +kernel

/-- Section 9.1, Worked example: the head and the guard together. -/
theorem test_hold_twice :
    obs (.hold (rx .hold 3 [])) base (fun t => (t.head, bodies t)) = some (true, [.answer .hold .ok none .none]) ∧
    obs (.hold (rx .hold 3 [])) { base with head := true } bodies = some [.answer .hold .alreadyHeld none .none] := by
  decide +kernel

theorem test_resume_under_guard :
    obs (.resume (rx .resume 3 [])) { base with head := true, guard := true, guardLine := true }
      (fun t => (t.head, t.guard, t.disp[4].settleEnd)) = some (false, true, 0) ∧
    obs (.resume (rx .resume 3 [])) { base with head := true } (fun t => (t.head, t.disp[4].settleEnd)) =
      some (false, 4130) := by decide +kernel

theorem test_revive_isolated :
    ([0, 1] : List Byte).map (fun force =>
      obs (.revive (rx .revive 3 [5, force])) { base with bus := base.bus.set 5 { lit with presence := .isolated } }
        (fun t => t.bus[5].presence)) = [some .isolated, some .reviving] := by decide +kernel

/-- Section 9.3, Worked example: a test across locked and unlocked entries. -/
theorem test_test_set :
    obs (.test (rx .test 3 [1, 90]))
      { base with
        ranges := ((State.reset.ranges.set 0 { block 1 1 0 0 0 15 0 with locked := true }).set 1
          { block 2 2 0 0 0 15 16 with locked := true, permTest := false }).set 2
          { block 3 3 0 0 0 15 32 with permTest := false },
        bus := Vector.ofFn fun c : Channel => if c.val ≤ 55 then lit else BusRec.powerOn }
      (fun t => (t.test.map (·.endTime), bodies t)) =
      some (some 10100, [.answer .test .ok none (.lampTest 60 40)]) := by decide +kernel

theorem test_ask_status :
    obs (.askStatus (rx .askStatus 3 [])) { queued 2 busy with withheld := true, upCheck := 7 }
      (fun t => (t.withheld, t.upCheck, t.queue.getLast?.map fun r => (reportPayload r).drop 6)) =
      some (false, 0, some [1, 3, 1, 2, 1, 124, 2, 0, 0, 0, 0, 0, 64, 0, 0, 0, 1, 0, 0, 7, 0]) := by decide +kernel

theorem test_ask_slot :
    obs (.askSlot (rx .askSlot 3 [8])) busy (fun t => t.queue.map fun r => (reportPayload r).drop 3) =
      some [[0x3C, 0, 0xFF, 1, 3, 1, 1, 7, 0, 0xFF, 0xFF, 0xFF, 0xFF, 0, 210, 0, 211]] := by decide +kernel

theorem test_ask_task :
    obs (.askTask (rx .askTask 3 [0x01, 0xF4])) busy (fun t => t.queue.map fun r => (reportPayload r).drop 3) =
      some [[0x3D, 0, 0xFF, 0x01, 0xF4, 0x01, 0x40, 0x09, 9, 0, 0, 0, 6, 0, 4, 0, 0, 0xFF, 0xFF, 0, 2, 0, 4, 0, 1,
             0xFF, 0xFF, 0xFF]] := by decide +kernel

/-! ### Timers and the GUARD line -/

/-- R51, R52: one advance on a SHOWING, a QUEUED and two DONE records, the last at its last unit. -/
theorem test_time_advance :
    obs .timeAdvance
      { base with
        pool := [{ listed 1 8 0 1 .showing with deadline := 1, remaining := some 100 },
                 { listed 2 8 0 1 .queued with deadline := 1, remaining := some 100 }, picked 3 9 1 1 100,
                 picked 4 9 1 1 1],
        slots := base.slots.set 8 [1, 2] }
      (fun t => (t.time, t.pool.map (·.remaining), t.pool.map (·.doneHold), t.lapsing)) =
      some (4101, [some 99, some 100, none, none], [none, none, some 99, some 1], [4]) := by decide +kernel

/-- R51: a hold freezes remaining times, and R52: not the done holds. -/
theorem test_time_advance_in_a_hold :
    obs .timeAdvance
      { base with
        head := true, pool := [{ listed 1 8 0 1 .showing with deadline := 1, remaining := some 100 }, picked 3 9 1 1 100],
        slots := base.slots.set 8 [1] }
      (fun t => (t.pool.map (·.remaining), t.pool.map (·.doneHold))) = some ([some 100, none], [none, some 99]) := by
  decide +kernel

/-- R51, R74: the remaining time reaches 0 and the task is expired, EXPIRED offered, the beacon on. -/
theorem test_deadline_expiry :
    obs (.deadlineExpiry 8)
      { base with
        pool := [{ listed 1 8 2 1 .showing with deadline := 1, remaining := some 1 }], slots := base.slots.set 8 [1],
        beaconEnable := true, lapsing := [1] }
      (fun t => (t.pool.map (fun x => (x.remaining, x.expired)), t.beacon, bodies t)) =
      some ([(some 0, true)], true, [.expired 1 ⟨20, 0, 8⟩ 8 2]) := by decide +kernel

/-- R51: A at its last unit and B at 5; the HOLD is taken after the advance, and both follow the old condition. -/
theorem test_hold_after_the_advance :
    ((obs .timeAdvance
      { base with
        pool := [{ listed 1 8 2 1 .showing with deadline := 1, remaining := some 1 },
                 { listed 2 9 2 1 .showing with deadline := 1, remaining := some 5 }],
        slots := (base.slots.set 8 [1]).set 9 [2] } id).bind
      fun s => (obs (.hold (rx .hold 3 [])) s id).bind fun t =>
        obs (.deadlineExpiry 8) t fun u => (u.head, u.pool.map fun x => (x.remaining, x.expired))) =
      some (true, [(some 0, true), (some 4, false)]) := by decide +kernel

theorem test_done_hold_expiry :
    obs (.doneHoldExpiry 500) busy (fun t => (t.pool.length, bodies t)) = some (3, []) ∧
    obs (.doneHoldExpiry 210) busy (·.pool) = none := by decide +kernel

theorem test_wait_blink_expiry :
    obs (.waitBlinkExpiry 40) { busy with disp := base.disp.set 40 ⟨0, true, some 4100, none, false⟩ }
      (fun t => (t.disp[40].waitBlinkEnd, t.disp[40].dirty)) = some (none, true) := by decide +kernel

theorem test_probation_expiry :
    obs (.probationExpiry 6) { base with bus := base.bus.set 6 { lit with probation := some 4100 } }
      (fun t => t.bus[6].probation) = some none := by decide +kernel

/-- R167: the set gets a settle window at the expiry. -/
theorem test_lamp_test_expiry :
    obs .lampTestExpiry { base with test := some ⟨.red, 4100, [7]⟩ }
      (fun t => (t.test, t.disp[7].settleEnd, t.disp[8].settleEnd)) = some (none, 4130, 0) := by decide +kernel

/-- Section 9.1: the timer of a release, the cancel by an assertion, and a delay of 0 (R161). -/
theorem test_guard_line :
    obs .guardRelease { base with guard := true, guardLine := true } (fun t => (t.guard, t.guardTimer)) =
      some (true, some 4300) ∧
    obs .guardAssertion { base with guard := true, guardTimer := some 4300 } (fun t => (t.guard, t.guardTimer)) =
      some (true, none) := by decide +kernel

theorem test_guard_release_at_once :
    obs .guardRelease { base with guard := true, guardLine := true, guardSteps := 0 }
      (fun t => (t.guard, t.disp[5].settleEnd)) = some (false, 4130) := by decide +kernel

/-- Section 7.6, Worked example: a press made under a hold; the expiry opens the window. -/
theorem test_guard_timer_expiry :
    obs .guardReleaseTimerExpiry { base with time := 8300, guard := true, guardTimer := some 8300 }
      (fun t => (t.guard, t.disp[5].settleEnd)) = some (false, 8330) := by decide +kernel

/-! ### The shelf bus -/

/-- R140: from the cursor on, past the end. -/
theorem test_visit_wraps :
    obs .visit { base with cursor := 63, bus := (State.reset.bus.set 0 { lit with presence := .reviving }).set 5 lit }
      (fun t => (t.exchange, t.cursor)) = some (some (.describe 0), 1) := by decide +kernel

theorem test_visit_of_the_inventory :
    obs .visit { State.reset with inventory := 63 } (fun t => (t.exchange, t.request.head?)) =
      some (some (.inventory 63), some 0xBF) := by decide +kernel

/-- Section 5.6, Worked example: a change during a SHOW; 150 on two digits. -/
theorem test_show_overflow :
    obs .showStart
      { base with
        bus := State.reset.bus.set 44 { lit with caps := some ⟨2, .full, true, 7⟩ }, batchLeft := 4,
        lanes := State.reset.lanes.set 0 ⟨true, .red, .steady⟩,
        pool := [listed 1 44 0 150 .showing], slots := base.slots.set 44 [1] }
      (fun t => (t.disp[44].dirty, t.request.take 5)) = some (false, [0x6C, 0x80, 0x81, 0x00, 0x63]) := by
  decide +kernel

theorem test_show_bars_in_a_hold :
    obs .showStart { busy with batchLeft := 4, head := true } (·.exchange) =
      some (some (.display 0 ⟨none, .bars⟩)) := by decide +kernel

theorem test_show_acknowledged :
    obs (.showAcknowledged (ack 8)) { busy with exchange := some (.display 8 ⟨none, .all⟩) }
      (fun t => (t.disp[8].lastSent, t.disp[8].dirty)) = some (some ⟨none, .all⟩, true) := by decide +kernel

theorem test_show_silent :
    obs .showSilent
      { busy with
        exchange := some (.display 8 ⟨none, .all⟩), disp := base.disp.set 8 ⟨0, true, none, some ⟨none, .blank⟩, false⟩ }
      (fun t => (t.disp[8].lastSent, t.disp[8].dirty, t.bus[8].misses)) = some (none, true, 1) := by decide +kernel

/-- Section 7.1, Worked example: readings into presses: readings held, settled level, press. -/
theorem test_readings_into_presses :
    ((([.down, .down, .up, .up, .down, .up, .down, .down, .down, .up, .up, .down, .down] : List KeyLevel).foldl
      (fun (a : KeyHistory × List Bool) k => (readKey k a.1, a.2 ++ [makesPress k a.1])) (.unknown, [])).2) =
    [false, false, false, false, false, false, false, true, false, false, false, false, true] := by decide +kernel

/-- Section 7.5: the press at 4105 in the first and in the second order. -/
theorem test_confirm_press_both_orders :
    obs (.pollAnswered (pollAnswer 8 1))
      { polling 8 busy with time := 4105, disp := base.disp.set 8 ⟨4130, false, none, none, true⟩ } bodies =
      some [.stalePress 8 (some ⟨210, ⟨20, 0, 8⟩, 1, 25⟩)] ∧
    obs (.pollAnswered (pollAnswer 8 1)) { polling 8 busy with time := 4105 }
      (fun t => (t.slots[8], t.disp[8].settleEnd, bodies t)) =
      some ([211], 4135, [.confirmed 210 ⟨20, 0, 8⟩ 8 1 5 5 false]) := by decide +kernel

/-- Section 7.5, Worked example: a full queue and the wait blink, at 7200; and the adjust press at 7203. -/
theorem test_wait_blink_and_adjust :
    obs (.pollAnswered (pollAnswer 40 1)) { queued 31 (polling 40 busy) with time := 7200 }
      (fun t => (t.disp[40].waitBlinkEnd, t.queue.length, t.withheld)) = some (some 7300, 31, false) ∧
    obs (.pollAnswered (pollAnswer 40 2)) { queued 31 (polling 40 busy) with time := 7203 }
      (fun t => (t.pool[2]?).map fun x => (x.a, x.adjusted)) = some (some (3, true)) := by decide +kernel

/-- R144: the third miss in probation isolates. -/
theorem test_third_miss_in_probation :
    obs .pollSilent
      { busy with
        exchange := some (.poll 8), bus := base.bus.set 8 { lit with misses := 2, probation := some 9000 } }
      (fun t => (t.bus[8].presence, t.slots[8], bodies t)) =
      some (.isolated, [210, 211], [.moduleFault 8 true (some 210)]) := by decide +kernel

theorem test_describe_answered :
    obs (.describeAnswered (describeAnswer 8 4 0 1))
      { busy with exchange := some (.describe 8), bus := base.bus.set 8 { lit with presence := .reviving } }
      (fun t => (t.bus[8].caps, t.bus[8].probation, bodies t)) =
      some (some ⟨4, .single, true, 7⟩, some 10100, [.moduleBack 8 (some 210)]) := by decide +kernel

theorem test_describe_silent :
    obs .describeSilent
      { busy with
        exchange := some (.describe 8), bus := base.bus.set 8 { lit with presence := .reviving, misses := 2 } }
      (fun t => (t.bus[8].presence, t.bus[8].misses)) = some (.isolated, 0) := by decide +kernel

/-- R152: the answer of channel 63 ends the inventory. -/
theorem test_inventory_ends :
    obs (.inventoryAnswered (describeAnswer 63 2 1 0)) { State.reset with exchange := some (.inventory 63), inventory := 63 }
      (fun t => (t.ctrl, t.cursor, t.bus[63].presence)) = some (.running, 0, .present) := by decide +kernel

theorem test_inventory_silent :
    obs .inventorySilent
      { State.reset with exchange := some (.inventory 4), inventory := 4, bus := State.reset.bus.set 4 { BusRec.powerOn with misses := 2 } }
      (fun t => (t.ctrl, t.inventory, t.bus[4].presence)) = some (.starting, 5, .absent) := by decide +kernel

/-- An answer with a wrong check byte is a miss (R137, R144). -/
theorem test_bad_answer_is_a_miss :
    obs (.pollAnswered [8, 1, 0]) (polling 8 busy) (fun t => (t.bus[8].misses, t.queue.length)) = some (1, 0) := by
  decide +kernel

/-! ### States and operands that meet the hypotheses of the statements, clause by clause -/

/-- A way to show that lists stand which goes through the lists and not through all tags. -/
theorem listsStand_intro {s : State} (tags : (s.pool.map (·.tag)).Nodup)
    (listed : (List.finRange 64).all (fun c => s.slots[c].all fun tag =>
      s.pool.any fun t => t.tag == tag && t.channel == c && t.state != .done) = true)
    (stands : ∀ t ∈ s.pool, t.state ≠ .done → t.tag ∈ s.slots[t.channel]) (once : ∀ c : Channel, s.slots[c].Nodup)
    (first : ∀ t ∈ s.pool, t.state ≠ .done → (t.state = .showing ↔ s.slots[t.channel].head? = some t.tag))
    (order : ∀ c : Channel, (s.slots[c].drop 1).Pairwise fun x y =>
      ∀ t ∈ s.pool, ∀ u ∈ s.pool, t.tag = x → u.tag = y → u.urgency ≤ t.urgency) : ListsStand s where
  tags := tags
  listed := by
    intro c tag hm
    have h := List.all_eq_true.1 (List.all_eq_true.1 listed c (List.mem_finRange c)) tag hm
    obtain ⟨t, ht, hp⟩ := List.any_eq_true.1 h
    simp only [Bool.and_eq_true, beq_iff_eq, bne_iff_ne] at hp
    exact ⟨t, ht, hp.1.1, hp.1.2, hp.2⟩
  stands := stands
  once := once
  first := first
  order := order

/-- The lists of busy stand. -/
theorem test_busy_lists_stand : ListsStand busy := by
  apply listsStand_intro <;> decide +kernel

/-- Lists stand in every state with the pool and the lists of another one. -/
theorem listsStand_of {s t : State} (h : ListsStand s) (hp : t.pool = s.pool) (hs : t.slots = s.slots) :
    ListsStand t :=
  { tags := hp ▸ h.tags, listed := hp ▸ hs ▸ h.listed, stands := hp ▸ hs ▸ h.stands, once := hs ▸ h.once,
    first := hp ▸ hs ▸ h.first, order := hp ▸ hs ▸ h.order }

/-- The lists of a state with nothing in them stand. -/
theorem test_base_lists_stand : ListsStand base := by
  apply listsStand_intro <;> decide +kernel

/-- Only entry 2 of base has a span. -/
theorem test_base_ranges_stand : RangesStand base.ranges := by
  refine ⟨by decide +kernel, by decide +kernel, ?_⟩
  have h : ∀ k : EntryNo, k ≠ 2 → (base.ranges[k].mode == .block) = false := by decide +kernel
  intro i j c hij hi
  have hoff : ∀ k : EntryNo, k ≠ 2 → inSpan base.ranges[k] c = false := by
    intro k hk
    unfold inSpan
    rw [h k hk]
    rfl
  by_cases hi2 : i = 2
  · exact hoff j (fun hj => hij (hi2.trans hj.symm))
  · rw [hoff i hi2] at hi
    cases hi

theorem test_witness_StepRunsTheFrontCommand : State.reset.pending = [] := rfl

theorem test_witness_QueueStandsAndTimeMovesByAdvance :
    (obs .timeAdvance base (·.time)).isSome = true ∧ (obs (.powerOnReset true false) base (·.time)).isSome = true ∧
    (obs (.lineBreak true false) State.reset (·.time)).isSome = true ∧ (obs .visit base (·.time)).isSome = true := by
  decide +kernel

/-- Tag 210 is SHOWING before and DONE after the taken press. -/
theorem test_witness_DoneOnlyByTakenConfirmPress :
    ListsStand (polling 8 busy) ∧ (polling 8 busy).pool.head?.map (fun x => (x.tag, x.state)) = some (210, .showing) ∧
    obs (.pollAnswered (pollAnswer 8 1)) (polling 8 busy) (fun t => t.pool.head?.map fun x => (x.tag, x.state)) =
      some (some (210, .done)) :=
  ⟨listsStand_of test_busy_lists_stand rfl rfl, by decide +kernel, by decide +kernel⟩

/-- One command that adds, one that removes, one that empties. -/
theorem test_witness_AdmissionKeepsTheTiers :
    obs (.hold (rx .hold 3 [])) (queued 31 base) (·.queue.length) = some 32 ∧
    obs .reportFrameSent { queued 2 base with upo := some ⟨.queue, frameOf 0x60 (good 0x60 0 9 [])⟩ }
      (·.queue.length) = some 1 ∧
    obs (.powerOnReset true false) (queued 2 base) (·.queue.length) = some 0 := by decide +kernel

theorem test_witness_LockedEntriesStandUntilReset :
    obs (.ranges (rx .ranges 3 (oneEntry 2 12 13 [0, 3, 1, 6, 16, 0x56])))
      { base with ranges := State.reset.ranges.set 2 { block 20 20 0 0 0 63 0 with locked := true } }
      (fun t => (t.ranges[2].locked, bodies t)) = some (true, [.answer .ranges .locked (some 2) .none]) := by
  decide +kernel

theorem test_witness_PresenceIsGainedOnlyByDescribe :
    obs (.describeAnswered (describeAnswer 8 4 0 1))
      { base with exchange := some (.describe 8), bus := base.bus.set 8 { lit with presence := .reviving } }
      (fun t => t.bus[8].presence) = some .present ∧
    obs (.inventoryAnswered (describeAnswer 0 4 0 1)) { State.reset with exchange := some (.inventory 0) }
      (fun t => t.bus[0].presence) = some .present ∧
    obs (.powerOnReset true false) base (fun t => t.bus[0].presence) = some .absent := by decide +kernel

theorem test_witness_BreakResetsAndIsRelayedOnce :
    base.breakWait = false ∧ base.ctrl = .running ∧ State.reset.breakWait = false ∧
    State.reset.ctrl = .starting ∧ { base with breakWait := true }.breakWait = true := by decide +kernel

theorem test_witness_TerminalStatusChanges :
    base.terminal = false ∧ State.reset.terminal = true ∧ base.dno ≠ .spacing ∧
    { base with dno := .spacing }.dno = .spacing := by decide +kernel

/-- A down frame of a known kind passes the checks when its parts do. -/
theorem passesDown {f : Frame} (k : Kind) (hk : kindOf f.kind = some k) (hl : f.payload.length ≤ 88)
    (hc : f.check = crc16 (f.kind :: BitVec.ofNat 8 f.payload.length :: f.flags :: f.segment :: f.payload))
    (hs : sizeAgrees k f.payload.length = true) : passesChecks .down f :=
  ⟨hl, hc, fun j hj => by rw [hk] at hj; cases hj; exact hs⟩

/-- A HOLD without payload passes the checks of the down lane. -/
theorem test_hold_passes : passesChecks .down (frameOf 0x37 (rx .hold 0 [])) :=
  passesDown .hold (by decide +kernel) (by decide +kernel) (by decide +kernel) (by decide +kernel)

/-- A terminal segment; and on either lane a frame that fails, and one that passes and finds 4 frames. -/
theorem test_witness_DiscardsAreCountedOrIgnored :
    State.reset.terminal = true ∧ ¬ ((.up : StringLane) = .up ∧ base.terminal = true) ∧
    ¬ passesChecks .down (frameOf 0x37 (rx .hold 0 [1])) ∧ passesChecks .down (frameOf 0x37 (rx .hold 0 [])) ∧
    bufferFull .down (buffered 4 base) ∧ ¬ passesChecks .up (frameOf 0x60 (good 0x60 0 9 [])) ∧
    passesChecks .up (frameOf 0x60 (good 0x60 0 9 [2, 0, 0, 3])) ∧
    bufferFull .up { base with upBuf := (buffered 4 base).downBuf } := by
  refine ⟨by decide +kernel, by decide +kernel, ?_, test_hold_passes, ?_, ?_, ?_, ?_⟩
  · intro h
    exact absurd (h.2.2 .hold (by decide +kernel)) (by decide +kernel)
  · unfold bufferFull
    decide +kernel
  · intro h
    exact absurd rfl (h.2.2 (by decide +kernel)).1
  · exact ⟨by decide +kernel, by decide +kernel, fun _ => ⟨by decide +kernel, .inr (by decide +kernel)⟩⟩
  · unfold bufferFull
    decide +kernel

/-- Report sizes at their ends: an ANSWER of 6 and of 32 bytes, and a code that R191 does not list. -/
theorem test_report_sizes :
    ReportSizeFits (0x01 :: List.replicate 5 0) ∧
    ReportSizeFits ([0x01, 0, 0, kindCode .askSlot] ++ List.replicate 28 0) ∧
    ¬ ReportSizeFits [0x26, 0, 0, 0] := by
  refine ⟨⟨by decide, .inl ⟨by decide, .inl (by decide)⟩⟩,
    ⟨by decide +kernel, .inl ⟨by decide +kernel, ?_⟩⟩, ?_⟩
  · exact .inr (.inr (.inr (.inr (.inr (.inl ⟨by decide +kernel, 8, by decide, by decide +kernel⟩)))))
  · rintro ⟨-, ⟨h, -⟩ | h⟩ <;> revert h <;> decide +kernel

theorem test_witness_BadAndOverrunFramesAreNotActedOn :
    ¬ GoodFrame .lock (rx .lock 0 (List.replicate 17 0)) ∧ GoodFrame .lock (rx .lock 0 (List.replicate 16 0)) ∧
    4 ≤ (buffered 4 base).downBuf.length := by
  unfold GoodFrame
  decide +kernel

theorem test_witness_UnknownAndUpFramesAreRelayedAsReceived :
    kindOf 0x15 = none ∧ passesChecks .down (frameOf 0x15 (good 0x15 0 0 (List.replicate 10 0))) ∧
    (buffered 3 base).downBuf.length < 4 ∧ passesChecks .up (frameOf 0x61 (good 0x61 0 9 [])) ∧
    base.upBuf.length < 4 ∧ base.terminal = false := by
  refine ⟨by decide +kernel, ?_, by decide +kernel, ?_, by decide +kernel, by decide +kernel⟩
  · refine ⟨by decide +kernel, by decide +kernel, fun k hk => ?_⟩
    have h : kindOf (0x15 : Byte) = none := by decide +kernel
    exact absurd (h.symm.trans hk) (by simp)
  · exact ⟨by decide +kernel, by decide +kernel, fun h => absurd h (by decide +kernel)⟩

theorem test_witness_DownRelaySendsTheOldestFrame :
    (buffered 1 base).downBuf = [frameOf 0x70 (good 0x70 0 0 [1])] ∧ (buffered 1 base).terminal = false ∧
    (buffered 1 base).dno = .idle ∧ base.downBuf = [] ∧
    { base with dno := .sending (frameOf 0x70 (good 0x70 0 0 [1])) }.dno =
      .sending (frameOf 0x70 (good 0x70 0 0 [1])) := by decide +kernel

/-- Both, one and none of the requesters offering, either source sent last, and either on the line. -/
theorem test_witness_MergeArbiterAlternates :
    base.upo = none ∧ base.lastSource = .relay ∧ base.queue = [] ∧ base.upBuf = [] ∧
    (queued 1 base).queue.length = 1 ∧ { base with lastSource := .queue }.lastSource = .queue ∧
    { base with upBuf := (buffered 1 base).downBuf }.upBuf.length = 1 ∧
    { base with upo := some ⟨.queue, frameOf 0x60 (good 0x60 0 9 [])⟩ }.upo =
      some ⟨.queue, frameOf 0x60 (good 0x60 0 9 [])⟩ := by decide +kernel

/-- N at 0, 1, 250, 251 and 255; and a terminal with a full queue. -/
theorem test_witness_EnumerateRenumbers :
    ((∀ n ∈ ([0, 1, 250, 251, 255] : List Nat), Accepted .enumerate (rx .enumerate 255 [BitVec.ofNat 8 n]) base) ∧
    Accepted .enumerate (rx .enumerate 255 [7]) (queued 32 State.reset) ∧
    (queued 32 State.reset).terminal = true ∧ 32 ≤ (queued 32 State.reset).queue.length ∧
    ¬ (base.terminal = true ∧ 32 ≤ base.queue.length)) := by
  unfold Accepted GoodFrame
  decide +kernel

/-- Segment 0 in a frame to segment 0, segments 250 and 251, broadcast, a full queue and STARTING. -/
theorem test_witness_ManagementFramesNotActedOn :
    isManagementKind .hold = true ∧ (buffered 3 base).downBuf.length < 4 ∧
    Accepted .hold (rx .hold 250 []) (buffered 3 base) ∧
    Addressed (rx .hold 250 []) { base with segNum := 250 } ∧ ¬ Addressed (rx .hold 251 []) { base with segNum := 251 } ∧
    ¬ Addressed (rx .hold 0 []) { base with segNum := 0 } ∧ Addressed (rx .hold 255 []) base ∧
    32 ≤ (queued 32 base).queue.length ∧ (queued 31 base).queue.length < 32 ∧ State.reset.ctrl = .starting := by
  unfold Accepted GoodFrame Addressed
  decide +kernel

/-- Owned and marked; not owned, unmarked, at the terminal; a RUN without room; not owned and marked. -/
theorem test_witness_TaskFramesNotTaken :
    isTaskKind .run = true ∧ Accepted .post (rxMarked .post (postAt 1 8 0 1 0)) base ∧
    matchLocation base.ranges (locationAt (postAt 1 8 0 1 0) 2) = .block 2 8 ∧
    (rxMarked .post (postAt 1 8 0 1 0)).flags.getLsbD 0 = true ∧
    Accepted .post (rx .post 0 (postAt 1 64 0 1 0)) { base with terminal := true } ∧
    matchLocation base.ranges (locationAt (postAt 1 64 0 1 0) 2) = .none ∧
    (rx .post 0 (postAt 1 64 0 1 0)).flags.getLsbD 0 = false ∧
    Accepted .run (rx .run 0 (tagAt 1 8 [0, 1, 0, 0, 1])) (queued 31 base) ∧ 31 ≤ (queued 31 base).queue.length := by
  unfold Accepted GoodFrame
  decide +kernel

/-- Into an empty list and behind others, at the largest quantity and with each condition. -/
theorem test_witness_PostTakenMakesOneRecord :
    ListsStand busy ∧
    (Claimed .post (rx .post 0 (postAt 600 12 0xE2 9999 255)) 2 12 busy ∧
      (postOp (postAt 600 12 0xE2 9999 255)).q = 9999 ∧ (postOp (postAt 600 12 0xE2 9999 255)).condition = .ifIdle ∧
      busy.slots[12] = []) ∧
    (Claimed .post (rx .post 0 (postAt 600 8 0xE4 1 0)) 2 8 busy ∧
      (postOp (postAt 600 8 0xE4 1 0)).condition = .ifLaneFree ∧
      (∀ x ∈ busy.pool, x.tag ∈ busy.slots[8] → x.lane ≠ (postOp (postAt 600 8 0xE4 1 0)).lane) ∧
      busy.slots[8].length < 8 ∧ busy.pool.length < 128) ∧
    busy.ranges[2].permPost = true ∧ busy.lanes[7].enabled = true ∧ busy.bus[8].presence = .present ∧
    (∀ x ∈ busy.pool, x.tag ≠ 600) := by
  refine ⟨test_busy_lists_stand, ?_⟩
  unfold Claimed Accepted GoodFrame
  decide +kernel

/-- The checks of a POST in order, as the statement writes them. -/
def firstFailure (v : PostOp) (e : RangeEntry) (c : Channel) (s : State) : Option RefuseReason :=
  if 9999 < v.q then some .badQuantity
  else if e.permPost = false then some .notPermitted
  else if s.lanes[v.lane].enabled = false then some .laneDisabled
  else if s.bus[c].presence = .absent then some .slotAbsent
  else if s.bus[c].presence = .isolated then some .slotIsolated
  else if ∃ x ∈ s.pool, x.tag = v.tag then some .tagInUse
  else if (v.condition = .ifIdle ∧ s.slots[c] ≠ []) ∨
      (v.condition = .ifLaneFree ∧ ∃ x ∈ s.pool, x.tag ∈ s.slots[c] ∧ x.lane = v.lane) ∨
      (v.condition = .ifPresent ∧ s.bus[c].presence ≠ .present) then some .conditionFalse
  else if 8 ≤ s.slots[c].length then some .listFull
  else if 128 ≤ s.pool.length then some .poolFull
  else none

/-- A channel with a full list. -/
def fullList : State :=
  { base with pool := (List.range 8).map fun n => listed (BitVec.ofNat 16 n) 8 0 1 (if n = 0 then .showing else .queued),
              slots := base.slots.set 8 ((List.range 8).map (BitVec.ofNat 16)) }

/-- A pool with no free place. -/
def fullPool : State := { base with pool := (List.range 128).map fun n => picked (BitVec.ofNat 16 n) 9 1 1 100 }

/-- The lists of the states below stand. -/
theorem test_witness_PostRefusedByTheFirstFailingCheck_lists :
    ListsStand base ∧ ListsStand busy ∧ ListsStand fullList ∧ ListsStand fullPool := by
  refine ⟨test_base_lists_stand, test_busy_lists_stand, ?_, ?_⟩ <;> apply listsStand_intro <;> decide +kernel

/-- Every one of the nine checks, and every condition, can be the first that fails; each state has the pool and
the lists of one of the theorem above. -/
theorem test_witness_PostRefusedByTheFirstFailingCheck :
    ∀ x ∈ ([(base, postAt 600 8 0 10000 0, .badQuantity),
            ({ base with ranges := State.reset.ranges.set 2 { block 20 20 0 0 0 63 0 with permPost := false } },
              postAt 600 8 0 9999 0, .notPermitted),
            ({ base with lanes := State.reset.lanes }, postAt 600 8 0 1 0, .laneDisabled),
            ({ base with bus := State.reset.bus }, postAt 600 8 0 1 0, .slotAbsent),
            ({ base with bus := base.bus.set 8 { lit with presence := .isolated } }, postAt 600 8 0 1 0, .slotIsolated),
            (busy, postAt 500 8 0 1 0, .tagInUse), (busy, postAt 600 8 0x02 1 0, .conditionFalse),
            (busy, postAt 600 8 0x24 1 0, .conditionFalse),
            ({ base with bus := base.bus.set 8 { lit with presence := .reviving } }, postAt 600 8 0x06 1 0,
              .conditionFalse),
            (fullList, postAt 600 8 0 1 0, .listFull), (fullPool, postAt 600 8 0 1 0, .poolFull)] :
            List (State × List Byte × RefuseReason)),
      Claimed .post (rx .post 0 x.2.1) 2 8 x.1 ∧ firstFailure (postOp x.2.1) x.1.ranges[2] 8 x.1 = some x.2.2 := by
  unfold Claimed Accepted GoodFrame
  decide +kernel

/-- The five whole-run checks; count 0 and 33, two quantities for a count of 1, the rest as named. -/
theorem test_witness_RunRefusedWhole :
    ∀ x ∈ ([(base, [0, 0, 0, 0, 1], .runCount), (base, [0, 33, 0, 0, 1], .runCount),
            (base, [0, 1, 0, 0, 1, 0, 1], .runList),
            ({ base with ranges := State.reset.ranges.set 2 { block 20 20 0 0 0 63 0 with permRun := false } },
              [0, 1, 0, 0, 1], .notPermitted),
            ({ base with lanes := State.reset.lanes }, [0, 32, 0, 0, 1], .laneDisabled),
            (base, [0, 2, 0, 0x27, 0x0F, 0x27, 0x10], .badQuantity)] : List (State × List Byte × RefuseReason)),
      let p := tagAt 600 8 x.2.1
      let v := runOp p
      Claimed .run (rx .run 0 p) 2 8 x.1 ∧ (queued 30 x.1).queue.length + 2 ≤ 32 ∧
      (if v.count < 1 ∨ 32 < v.count then some RefuseReason.runCount
       else if v.quantities.length ≠ 1 ∧ v.quantities.length ≠ v.count then some .runList
       else if x.1.ranges[2].permRun = false then some .notPermitted
       else if x.1.lanes[v.lane].enabled = false then some .laneDisabled
       else if ∃ q ∈ v.quantities, 9999 < q then some .badQuantity
       else none) = some x.2.2 := by
  unfold Claimed Accepted GoodFrame
  decide +kernel

/-- One quantity for a count of 32, and 2 quantities for a count of 2, the largest being 9999. -/
theorem test_witness_RunPostsConsecutiveTags :
    ListsStand busy ∧ RangesStand busy.ranges ∧ busy.pool.length ≤ 128 ∧ busy.queue.length + 2 ≤ 32 ∧
    ∀ more ∈ ([[0, 32, 0, 0x27, 0x0F], [0, 2, 0, 0, 1, 0x27, 0x0F]] : List (List Byte)),
      Claimed .run (rx .run 0 (tagAt 600 8 more)) 2 8 busy ∧
      (let v := runOp (tagAt 600 8 more)
       1 ≤ v.count ∧ v.count ≤ 32 ∧ (v.quantities.length = 1 ∨ v.quantities.length = v.count) ∧
       busy.ranges[2].permRun = true ∧ busy.lanes[v.lane].enabled = true ∧ ∀ q ∈ v.quantities, q ≤ 9999) := by
  refine ⟨test_busy_lists_stand, test_base_ranges_stand, ?_⟩
  unfold Claimed Accepted GoodFrame
  decide +kernel

/-- Q′ 10000; an unknown tag; a DONE record; a SHOWING and a QUEUED task at 9999. -/
theorem test_witness_AmendSetsTheQuantities :
    ListsStand busy ∧
    (∀ x ∈ ([(210, 8, [0x27, 0x10]), (999, 8, [0, 1]), (500, 9, [0, 1]), (210, 8, [0x27, 0x0F]), (211, 8, [0, 0])] :
        List (Nat × Nat × List Byte)),
      Claimed .amend (rx .amend 0 (tagAt (BitVec.ofNat 16 x.1) x.2.1 x.2.2)) 2 (Fin.ofNat 64 x.2.1) busy) ∧
    (¬ ∃ x ∈ busy.pool, x.tag = 999 ∧ x.channel = 8) ∧
    (∃ x ∈ busy.pool, x.tag = 500 ∧ x.channel = 9 ∧ x.state = .done) ∧
    (∃ x ∈ busy.pool, x.tag = 210 ∧ x.channel = 8 ∧ x.state = .showing) ∧
    (∃ x ∈ busy.pool, x.tag = 211 ∧ x.channel = 8 ∧ x.state = .queued) := by
  refine ⟨test_busy_lists_stand, ?_⟩
  unfold Claimed Accepted GoodFrame
  decide +kernel

/-- An unknown tag; SHOWING and QUEUED tasks; a DONE record with and without room in the queue. -/
theorem test_witness_WithdrawFreesTheTask :
    ListsStand busy ∧ ListsStand (queued 31 busy) ∧
    (∀ x ∈ ([(999, 8), (210, 8), (211, 8), (500, 9)] : List (Nat × Nat)), ∀ n ∈ ([30, 31] : List Nat),
      Claimed .withdraw (rx .withdraw 0 (tagAt (BitVec.ofNat 16 x.1) x.2 [])) 2 (Fin.ofNat 64 x.2)
        (queued n busy)) ∧
    (∃ x ∈ busy.pool, x.tag = 500 ∧ x.channel = 9 ∧ x.state = .done ∧ x.picked = some 4) ∧
    (queued 30 busy).queue.length + 2 ≤ 32 ∧ 32 < (queued 31 busy).queue.length + 2 := by
  refine ⟨test_busy_lists_stand, listsStand_of test_busy_lists_stand rfl rfl, ?_⟩
  unfold Claimed Accepted GoodFrame
  decide +kernel

theorem test_witness_ReleaseFreesADoneRecord :
    ListsStand busy ∧
    (∀ x ∈ ([(999, 8), (210, 8), (500, 9)] : List (Nat × Nat)),
      Claimed .release (rx .release 0 (tagAt (BitVec.ofNat 16 x.1) x.2 [])) 2 (Fin.ofNat 64 x.2) busy) ∧
    (∃ x ∈ busy.pool, x.tag = 500 ∧ x.channel = 9 ∧ x.state = .done) ∧
    (∃ x ∈ busy.pool, x.tag = 210 ∧ x.channel = 8 ∧ x.state ≠ .done) := by
  refine ⟨test_busy_lists_stand, ?_⟩
  unfold Claimed Accepted GoodFrame
  decide +kernel

/-- Values at and beyond every clamp, to this segment and broadcast. -/
theorem test_witness_SetupTakesClampedValues :
    ∀ p ∈ ([numBytes 2550 ++ [1, 10, 100, 0], numBytes 65535 ++ [0, 9, 101, 255], numBytes 9 ++ [255, 255, 0, 1]] :
        List (List Byte)), ∀ n ∈ ([3, 255] : List Nat), ActedOn .setup (rx .setup (BitVec.ofNat 8 n) p) (queued 31 base) := by
  unfold ActedOn Accepted GoodFrame Addressed
  decide +kernel

/-- First lane 8; a bad second entry; a busy second entry in a window past 7; a load that passes. -/
theorem test_witness_LanesLoadedWholeOrNotAtAll :
    (∀ p ∈ ([[8, 0x80], [7, 0x80, 0xF0], [0, 0x80, 0x00], [7, 0xE1, 0x90]] : List (List Byte)),
      ActedOn .lanes (rx .lanes 3 p) busy) ∧
    FirstFailing 2 (fun k => 6 < bitsOf (byteAt [7, 0x80, 0xF0] (1 + k)) 4 3 ∨
      1 < bitsOf (byteAt [7, 0x80, 0xF0] (1 + k)) 0 2) 1 ∧
    FirstFailing 2 (fun k => (byteAt [0, 0x80, 0x00] (1 + k)).getLsbD 7 = false ∧
      ∃ x ∈ busy.pool, x.lane.val = (0 + k) % 8 ∧ x.state ≠ .done) 1 := by
  unfold ActedOn Accepted GoodFrame Addressed FirstFailing
  decide +kernel

/-- base with its entry 2 locked. -/
def lockedEntry : State := { base with ranges := State.reset.ranges.set 2 { block 20 20 0 0 0 63 0 with locked := true } }

/-- First index 16; a locked, an unfitting, an overlapping and a busy entry; a load that passes. -/
theorem test_witness_RangesLoadedWholeOrNotAtAll :
    (∀ p ∈ ([oneEntry 16 1 1 [0, 0, 0, 0, 0, 0x47], oneEntry 3 0 4095 [0, 0, 0, 0, 0, 0x47],
             oneEntry 3 1 1 [0, 0, 0, 0, 63, 0x47], oneEntry 2 1 1 [0, 0, 0, 0, 0, 0x47],
             oneEntry 15 4095 4095 [31, 31, 127, 127, 63, 0x9F]] : List (List Byte)),
      ActedOn .ranges (rx .ranges 3 p) busy) ∧ RangesStand busy.ranges ∧
    ActedOn .ranges (rx .ranges 3 (oneEntry 2 1 1 [0, 0, 0, 0, 0, 0x47])) lockedEntry ∧
    lockedEntry.ranges[windowIndex 2 0].locked = true ∧
    ¬ EntryFits (entryOpAt (oneEntry 3 0 4095 [0, 0, 0, 0, 0, 0x47]) 1) ∧
    EntryFits (entryOpAt (oneEntry 3 1 1 [0, 0, 0, 0, 63, 0x47]) 1) ∧
    (let after := loadedTable busy.ranges (loadWindow 3 (entryOps (oneEntry 3 1 1 [0, 0, 0, 0, 63, 0x47])))
     inSpan after[3] 63 = true ∧ inSpan after[2] 63 = true) ∧
    (let after := loadedTable busy.ranges (loadWindow 2 (entryOps (oneEntry 2 1 1 [0, 0, 0, 0, 0, 0x47])))
     busy.ranges[2].mode = .block ∧ ¬ SameGeometry busy.ranges[2] after[2] ∧ inSpan busy.ranges[2] 8 = true ∧
     busy.slots[8] ≠ []) := by
  refine ⟨?_, test_base_ranges_stand, ?_, ?_⟩
  · unfold ActedOn Accepted GoodFrame Addressed
    decide +kernel
  · unfold ActedOn Accepted GoodFrame Addressed
    decide +kernel
  · unfold EntryFits SameGeometry
    decide +kernel

theorem test_witness_LockLocksTheNamedEntries :
    (∀ p ∈ ([[], [15, 0], [15, 16]] : List (List Byte)), ActedOn .lock (rx .lock 255 p) base) ∧
    FirstFailing 2 (fun k => 15 < (byteAt [15, 16] k).toNat) 1 ∧ (∀ b ∈ ([15, 0] : List Byte), b.toNat ≤ 15) := by
  unfold ActedOn Accepted GoodFrame Addressed FirstFailing
  decide +kernel

theorem test_witness_PurgeAndSweepFreeAndCount :
    ListsStand busy ∧ (∀ n ∈ ([0, 15, 16] : List Nat), ActedOn .purge (rx .purge 3 [BitVec.ofNat 8 n]) busy) ∧
    ∀ n ∈ ([0, 7, 8, 0xFE, 0xFF] : List Nat), ActedOn .sweep (rx .sweep 3 [BitVec.ofNat 8 n]) busy := by
  refine ⟨test_busy_lists_stand, ?_⟩
  unfold ActedOn Accepted GoodFrame Addressed
  decide +kernel

/-- HEAD present and absent, GUARD present and absent. -/
theorem test_witness_HoldFreezesAndResumeFrees :
    ∀ h g : Bool, ActedOn .hold (rx .hold 3 []) { base with head := h, guard := g } ∧
      ActedOn .resume (rx .resume 3 []) { base with head := h, guard := g } := by
  unfold ActedOn Accepted GoodFrame Addressed
  decide +kernel

/-- Channel 64 and 63, with and without force, in every presence state. -/
theorem test_witness_ReviveStartsTheProbe :
    (∀ p ∈ ([[63, 0], [63, 1], [64, 0], [64, 1]] : List (List Byte)), ActedOn .revive (rx .revive 3 p) base) ∧
    ∀ p ∈ ([.absent, .present, .faulted, .reviving, .isolated] : List Presence),
      ActedOn .revive (rx .revive 3 [63, 0]) { base with bus := base.bus.set 63 { lit with presence := p } } := by
  unfold ActedOn Accepted GoodFrame Addressed
  decide +kernel

theorem test_witness_TestStartsOrReplaces :
    (∀ p ∈ ([[0, 0], [6, 1], [6, 60], [7, 61]] : List (List Byte)), ActedOn .test (rx .test 3 p) base) ∧ colourOf 6 = some .white ∧
    ActedOn .test (rx .test 3 [6, 0]) { base with guard := true } := by
  unfold ActedOn Accepted GoodFrame Addressed
  decide +kernel

theorem test_witness_AskStatusAnswersAndClears :
    Accepted .askStatus (rx .askStatus 255 []) (queued 31 State.reset) ∧
    Addressed (rx .askStatus 255 []) State.reset ∧ (queued 31 State.reset).queue.length < 32 ∧
    State.reset.pool.length ≤ 128 := by
  unfold Accepted GoodFrame Addressed
  decide +kernel

theorem test_witness_AskSlotAndAskTaskAnswer :
    ListsStand busy ∧ (∀ p ∈ ([[63], [64]] : List (List Byte)), ActedOn .askSlot (rx .askSlot 3 p) busy) ∧
    (∀ t ∈ ([[1, 0xF4], [9, 9]] : List (List Byte)), ActedOn .askTask (rx .askTask 3 t) busy) ∧
    (∃ x ∈ busy.pool, x.tag = wordAt [1, 0xF4] 0) ∧ ∀ x ∈ busy.pool, x.tag ≠ wordAt [9, 9] 0 := by
  refine ⟨test_busy_lists_stand, ?_⟩
  unfold ActedOn Accepted GoodFrame Addressed
  decide +kernel

/-- A count above, and one at, its last unit. -/
theorem test_witness_TimeAdvanceLowersTheCounts :
    NothingDue { base with pool := [picked 3 9 1 1 2, picked 4 9 1 1 1] } := by
  unfold NothingDue
  refine ⟨fun _ _ h => absurd h.1 List.not_mem_nil, ?_, ?_, ?_, ?_⟩
  · have h : ∀ c : Channel, base.disp[c].waitBlinkEnd = none := by decide +kernel
    intro c e hc
    rw [h c] at hc
    cases hc
  · have h : ∀ c : Channel, base.bus[c].probation = none := by decide +kernel
    intro c e hc
    rw [h c] at hc
    cases hc
  · intro x hx
    cases hx
  · intro e he
    cases he

/-- An open window longer and shorter than the one started, and none. -/
theorem test_witness_SettleWindowsAreNeverShortened :
    ∀ d ∈ ([⟨4355, false, none, none, true⟩, ⟨4101, false, none, none, true⟩, ⟨0, true, none, none, true⟩] :
        List DisplayRec), ∀ units ∈ ([0, 30, 255] : List Nat),
      units ≤ 255 ∧ d.settleRemaining 4100 ≤ 255 ∧ (d.settlePassed = false → before 4100 d.settleEnd = true) := by
  decide +kernel

/-- A deadline that the present advance takes to 0, with a hold taken since. -/
def lapsingAt8 : State :=
  { base with head := true, pool := [{ listed 1 8 0 1 .showing with deadline := 1, remaining := some 1 }],
              slots := base.slots.set 8 [1], lapsing := [1] }

/-- A due and an undue done hold, and every timer none, before its end and at its end. -/
theorem test_witness_TimersExpire :
    ListsStand busy ∧
    (∃ x ∈ busy.pool, x.tag ∈ busy.lapsing ∧ x.state = .done ∧ x.doneHold = some 1) ∧
    (∀ x ∈ busy.pool, x.channel = 8 → x.remaining ≠ some 1) ∧
    before 4100 4101 = true ∧ before 4100 4100 = false ∧ busy.disp[8].waitBlinkEnd = none ∧
    busy.bus[8].probation = none ∧ busy.test = none := by
  exact ⟨test_busy_lists_stand, by decide +kernel⟩

/-- The lists with the due deadline stand. -/
theorem test_witness_TimersExpire_deadline :
    ListsStand lapsingAt8 ∧ ∃ x ∈ lapsingAt8.pool,
      x.tag ∈ lapsingAt8.lapsing ∧ x.state = .showing ∧ x.remaining = some 1 := by
  constructor
  · apply listsStand_intro <;> decide +kernel
  · decide +kernel

theorem test_witness_GuardLineHoldsTheAisle :
    base.head = false ∧ base.guard = false ∧ base.guardLine = false ∧ base.guardTimer = none ∧
    { base with guardLine := true, guard := true, guardSteps := 0 }.guardSteps = 0 ∧ 0 < base.guardSteps ∧
    { base with guard := true, guardTimer := some 4100 }.guardTimer = some 4100 ∧ before 4100 4100 = false ∧
    before 4100 4101 = true := by decide +kernel

/-- RUNNING with channels to visit and without, STARTING, and a batch with a dirty PRESENT channel and with
none. -/
theorem test_witness_VisitGoesToTheNextChannel :
    base.exchange = none ∧ { base with batchLeft := 1 }.batchLeft = 1 ∧
    base.bus[8].presence = .present ∧ base.disp[8].dirty = true ∧ base.batchLeft = 0 ∧ base.ctrl = .running ∧ State.reset.ctrl = .starting ∧
    (∀ c : Channel, State.reset.bus[c].presence = .present → State.reset.disp[c].dirty = false) ∧
    (base.bus[63].presence = .present ∧
      ∀ d : Channel, (63 - { base with cursor := 63 }.cursor).val ≤ (d - { base with cursor := 63 }.cursor).val) ∧
    (∀ c : Channel, ¬ (({ base with bus := State.reset.bus } : State).bus[c].presence = .present ∨
      ({ base with bus := State.reset.bus } : State).bus[c].presence = .reviving)) := by decide +kernel

theorem test_witness_ShowCarriesTheDerivedContent :
    ListsStand { busy with batchLeft := 1 } ∧ busy.exchange = none ∧ busy.batchLeft = 0 ∧
    (busy.bus[0].presence = .present ∧ busy.disp[0].dirty = true ∧ busy.bus[0].caps = some ⟨3, .full, true, 7⟩) ∧
    (∀ c : Channel, ¬ (({ base with bus := State.reset.bus } : State).bus[c].presence = .present ∧
      ({ base with bus := State.reset.bus } : State).disp[c].dirty = true)) := by
  exact ⟨listsStand_of test_busy_lists_stand rfl rfl, by decide +kernel⟩

theorem test_witness_AcknowledgedShowIsTheLastContent : GoodAnswer 1 0 63 (ack 63) := by
  unfold GoodAnswer
  decide +kernel

/-- Miss counts 0 and 1, each kind of exchange, and answers that are not good. -/
theorem test_witness_SilentExchangesAreMisses :
    base.bus[8].misses < 2 ∧ { lit with misses := 1 }.misses < 2 ∧ (polling 8 base).exchange = some (.poll 8) ∧
    ¬ GoodAnswer 0 1 8 (pollAnswer 9 1) ∧ ¬ GoodAnswer 1 0 8 [] ∧
    ¬ (GoodAnswer 2 4 8 (describeAnswer 8 5 1 1) ∧ DescribeInRange (describeAnswer 8 5 1 1)) := by
  unfold GoodAnswer DescribeInRange
  decide +kernel

theorem test_witness_ThirdMissTakesTheChannelOut :
    ({ base with
      exchange := some (.poll 8), bus := base.bus.set 8 { lit with misses := 2, probation := some 9000 } } :
        State).bus[8].misses = 2 ∧
    ({ lit with misses := 2 } : BusRec).presence = .present ∧
    ({ lit with misses := 2, presence := .reviving } : BusRec).presence = .reviving := by decide +kernel

/-- Both keys pressed, one pressed, none pressed, and a module without an adjust key. -/
theorem test_witness_AnsweredPollIsOneReading :
    Polled 63 (pollAnswer 63 3) (polling 63 base) ∧ ConfirmPressed 63 (pollAnswer 63 3) (polling 63 base) ∧
    ¬ ConfirmPressed 63 (pollAnswer 63 0xFC) (polling 63 base) ∧
    (∃ k, base.bus[63].caps = some k ∧ k.adjustKey = true) ∧ ¬ ∃ k, State.reset.bus[63].caps = some k ∧ k.adjustKey = true := by
  refine ⟨?_, ?_, ?_, ⟨⟨3, .full, true, 7⟩, by decide +kernel⟩, ?_⟩
  · unfold Polled GoodAnswer
    decide +kernel
  · unfold ConfirmPressed
    decide +kernel
  · unfold ConfirmPressed
    decide +kernel
  · rintro ⟨k, hk, -⟩
    have h : State.reset.bus[63].caps = none := by decide +kernel
    rw [h] at hk
    cases hk

/-- The adjust key is pressed in polling. -/
theorem adjustPressed_polling (c : Channel) (s : State) (h : (polling c s).bus[c].caps = some ⟨3, .full, true, 7⟩)
    (a : List Byte) (ha : levelIn a 1 = .down) (hl : (polling c s).bus[c].adjustKey = ⟨some .up, some .down, some .up⟩) :
    AdjustPressed c a (polling c s) :=
  ⟨⟨_, h, rfl⟩, ha, by rw [hl], by rw [hl]⟩

/-- A confirm press alone, and with an adjust press of the same reading; 2 free places. -/
theorem test_witness_ConfirmPressTaken :
    ListsStand (queued 30 (polling 8 busy)) ∧ Polled 8 (pollAnswer 8 3) (polling 8 busy) ∧
    ConfirmPressed 8 (pollAnswer 8 3) (polling 8 busy) ∧ Free (polling 8 busy) ∧
    listed 210 8 1 5 .showing ∈ busy.pool ∧ busy.slots[8].head? = some 210 ∧
    busy.disp[8].settleOpen busy.time = false ∧ (queued 30 (polling 8 busy)).queue.length + 2 ≤ 32 ∧
    AdjustPressed 8 (pollAnswer 8 3) (polling 8 busy) ∧ ¬ AdjustPressed 8 (pollAnswer 8 1) (polling 8 busy) := by
  refine ⟨listsStand_of test_busy_lists_stand rfl rfl, ?_, ?_, ?_, by decide +kernel, by decide +kernel,
    by decide +kernel, by decide +kernel, ?_, ?_⟩
  · unfold Polled GoodAnswer
    decide +kernel
  · unfold ConfirmPressed
    decide +kernel
  · unfold Free
    decide +kernel
  · exact adjustPressed_polling 8 busy (by decide +kernel) _ (by decide +kernel) (by decide +kernel)
  · rintro ⟨-, h, -⟩
    revert h
    decide +kernel

/-- The four cases that ignore a confirm press or set it aside, with and without an adjust press. -/
theorem test_witness_ConfirmPressSetAside :
    ListsStand (polling 8 busy) ∧ Polled 8 (pollAnswer 8 1) (polling 8 busy) ∧
    ConfirmPressed 8 (pollAnswer 8 1) (polling 8 busy) ∧ ¬ AdjustPressed 8 (pollAnswer 8 1) (polling 8 busy) ∧
    AdjustPressed 8 (pollAnswer 8 3) (polling 8 busy) ∧
    Free (polling 8 busy) ∧ ¬ Free { polling 8 busy with head := true } ∧ ListsStand (polling 8 base) ∧
    (polling 8 base).slots[8] = [] ∧
    ({ busy with disp := base.disp.set 8 ⟨4101, false, none, none, true⟩ } : State).disp[8].settleOpen 4100 = true ∧
    busy.disp[8].settleOpen busy.time = false ∧ 31 ≤ (queued 31 busy).queue.length := by
  refine ⟨listsStand_of test_busy_lists_stand rfl rfl, ?_, ?_, ?_, ?_, ?_, ?_,
    listsStand_of test_base_lists_stand rfl rfl, by decide +kernel⟩
  · unfold Polled GoodAnswer
    decide +kernel
  · unfold ConfirmPressed
    decide +kernel
  · rintro ⟨-, h, -⟩
    revert h
    decide +kernel
  · exact adjustPressed_polling 8 busy (by decide +kernel) _ (by decide +kernel) (by decide +kernel)
  · unfold Free
    decide +kernel
  · unfold Free
    decide +kernel

/-- A taken adjust press, A at 0 and above, and the cases that ignore it. -/
theorem test_witness_AdjustPressLowersTheQuantity :
    ListsStand (polling 40 busy) ∧ Polled 40 (pollAnswer 40 2) (polling 40 busy) ∧
    AdjustPressed 40 (pollAnswer 40 2) (polling 40 busy) ∧ ¬ ConfirmPressed 40 (pollAnswer 40 2) (polling 40 busy) ∧
    Free (polling 40 busy) ∧ ¬ Free { polling 40 busy with guard := true } ∧
    busy.disp[40].settleOpen busy.time = false ∧
    ListsStand { base with
      pool := [{ listed 1 40 0 0 .showing with a := 0 }, { listed 2 41 0 3 .showing with a := 0 }],
      slots := (base.slots.set 40 [1]).set 41 [2] } := by
  refine ⟨listsStand_of test_busy_lists_stand rfl rfl, ?_, ?_, ?_, ?_, ?_, by decide +kernel, ?_⟩
  · unfold Polled GoodAnswer
    decide +kernel
  · exact adjustPressed_polling 40 busy (by decide +kernel) _ (by decide +kernel) (by decide +kernel)
  · unfold ConfirmPressed
    decide +kernel
  · unfold Free
    decide +kernel
  · unfold Free
    decide +kernel
  · apply listsStand_intro <;> decide +kernel

theorem test_witness_AnsweredDescribeBringsTheModuleBack :
    ∀ a ∈ ([describeAnswer 63 2 1 1, describeAnswer 63 4 0 0] : List (List Byte)),
      GoodAnswer 2 4 63 a ∧ DescribeInRange a := by
  unfold GoodAnswer DescribeInRange
  decide +kernel

/-- Channels 0 and 63, answered and at the third silence. -/
theorem test_witness_InventoryDecidesEachChannel :
    ∀ n ∈ ([0, 63] : List Nat), let c : Channel := Fin.ofNat 64 n
      GoodAnswer 2 4 c (describeAnswer c 2 0 0) ∧
      DescribeInRange (describeAnswer c 2 0 0) ∧ State.reset.bus[c].presence = .absent ∧
      ({ State.reset with bus := State.reset.bus.set c { BusRec.powerOn with misses := 2 } } : State).bus[c].misses =
        2 := by
  unfold GoodAnswer DescribeInRange
  decide +kernel

theorem test_witness_EventsThatCannotOccurStop :
    passesChecks .down (frameOf 0x37 (rx .hold 0 [])) ∧ ¬ bufferFull .down (buffered 3 base) ∧
    base.dno = .idle ∧ base.upo = none ∧ base.exchange = none ∧ (polling 8 base).exchange ≠ none := by
  refine ⟨test_hold_passes, ?_⟩
  unfold bufferFull
  decide +kernel

/-- The corners of an entry that fills the channels, in every order. -/
theorem test_witness_ChannelMappingIsOneToOne :
    ∀ o ∈ ([.normal, .reversed, .serpentine, .serpentineReversed] : List PosOrder),
      let e := { block 12 13 0 3 1 6 16 with order := o }
      e.mode = .block ∧ geometryFits e = true ∧ inBounds e ⟨12, 0, 1⟩ = true ∧ inBounds e ⟨13, 3, 6⟩ = true := by
  decide +kernel

theorem test_witness_SteppingStaysInTheRectangle :
    inBounds (block 12 13 0 3 1 6 16) ⟨12, 0, 1⟩ = true ∧ inBounds (block 12 13 0 3 1 6 16) ⟨13, 3, 6⟩ = true ∧
    nextLocation .ascending (block 12 13 0 3 1 6 16) ⟨12, 3, 6⟩ = some ⟨13, 0, 1⟩ ∧
    nextLocation .descending (block 12 13 0 3 1 6 16) ⟨13, 0, 1⟩ = some ⟨12, 3, 6⟩ := by decide +kernel

theorem test_witness_LocationFieldRoundTrip : (4095 : Nat) < 4096 ∧ 31 < 32 ∧ 127 < 128 := by decide

theorem test_witness_ReportFramesAreAcceptedUpstream :
    bodyFits (.answer .askSlot .ok none (.slot ⟨.present, none, 0, none, List.replicate 8 0⟩)) ∧
    (∀ c : Channel, busy.slots[c].length ≤ 8) ∧ (∀ r ∈ (queued 3 busy).queue, bodyFits r.body) ∧
    step (queued 3 busy) = .next (queued 3 busy) := by
  refine ⟨⟨rfl, by decide⟩, by decide +kernel, ?_, rfl⟩
  intro r hr
  rw [List.eq_of_mem_replicate hr]
  trivial

/-! ### A sound state that is not the reset state, and steps from it -/

/-- Every channel of busy is PRESENT with the module of lit. -/
theorem busy_bus (c : Channel) : busy.bus[c] = lit := by
  revert c
  decide +kernel

/-- busy meets every invariant of the model. -/
theorem test_busy_sound : Sound busy where
  room := by constructor <;> decide +kernel
  beacon := by
    have h : ¬ (busy.beacon = true) := by decide +kernel
    have he : ¬ (busy.beaconEnable = true) := by decide +kernel
    exact ⟨fun x => absurd x h, fun x => absurd x.1 he⟩
  quiet := fun h => absurd h (by decide +kernel)
  lines := ⟨fun _ h => (nomatch h), fun _ h => (nomatch h), fun _ h => (nomatch h)⟩
  lists := test_busy_lists_stand
  records := by
    intro x hx
    have hcases : x = listed 210 8 1 5 .showing ∨ x = listed 211 8 2 2 .queued ∨ x = listed 77 40 3 4 .showing ∨
        x = picked 500 9 6 4 1 := by simpa [busy] using hx
    obtain rfl | rfl | rfl | rfl := hcases <;> constructor <;> simp [listed, picked]
  bus := by
    refine ⟨fun c h => ?_, fun c h => ?_, fun c _ => ?_, fun h => (nomatch h), fun _ h => (nomatch h), fun _ h => (nomatch h),
      fun _ h => (nomatch h), fun _ _ h => (nomatch h)⟩
    · rw [busy_bus c] at h
      cases h
    · exact absurd (by rw [busy_bus c]; rfl) h
    · rw [busy_bus c]
      rfl
  ranges := test_base_ranges_stand
  owners := by
    intro c _
    exact ⟨2, by revert c; decide +kernel⟩
  guard := by
    unfold GuardStands
    decide +kernel
  test := ⟨fun _ => rfl, fun _ h => (nomatch h)⟩
  setup := by constructor <;> decide +kernel
  settle := by
    have h : ∀ c : Channel, busy.disp[c].settlePassed = true := by decide +kernel
    intro c hc
    rw [h c] at hc
    cases hc

/-- The hypotheses of the invariants, with a step that goes on. -/
theorem test_witness_EveryStepKeeps :
    RoomKept busy ∧ ListsStand busy ∧ (∀ x ∈ busy.pool, RecordFits x) ∧ RangesStand busy.ranges ∧
    ListsHaveOwners busy ∧ BusStand busy ∧ BeaconTrue busy ∧ TerminalQuiet busy ∧ LinesMatch busy ∧
    GuardStands busy ∧ TestStands busy ∧ SetupFits busy ∧ SettleStands busy ∧ (obs .timeAdvance busy (·.time)) = some 4101 := by
  have h := test_busy_sound
  exact ⟨h.room, h.lists, h.records, h.ranges, h.owners, h.bus, h.beacon, h.quiet, h.lines, h.guard, h.test,
    h.setup, h.settle, by decide +kernel⟩

end Sys2Proof.Tests
end

section
/-! PROOFS. The elementary changes a command is made of, said once: every command is a chain of them, a reset,
an advance of controller time or the removal of a sent report (exec_effect). What all commands keep is then
proved over the few elementary changes that touch it. -/

namespace Sys2Proof.Machine

/-! ### Elementary changes -/

/-- The settle end and its passed mark stand, or are those of a window started in s (R50). -/
def SettleFrom (s : State) (d d' : DisplayRec) : Prop :=
  (d'.settleEnd = d.settleEnd ∧ d'.settlePassed = d.settlePassed) ∨
  (d'.settleEnd = (startSettle s.time s.settleUnits d).settleEnd ∧
    d'.settlePassed = (startSettle s.time s.settleUnits d).settlePassed)

/-- What failChannel does before it offers its MODULE_FAULT (R98, R119, R145, R146, R165). -/
def takeOut (c : Channel) (isolated : Bool) (s : State) : State :=
  evalBeacon { s with
    bus := updTab s.bus c fun b => { b with
      presence := (if isolated then .isolated else .faulted), misses := 0,
      confirmKey := .unknown, adjustKey := .unknown, probation := none }
    disp := updTab s.disp c fun d => { d with lastSent := none }
    test := s.test.map fun x => { x with set := x.set.filter (· != c) } }

/-- What expireDeadline does before it offers its EXPIRED (R74). -/
def expireRecord (x : Task) (s : State) : State :=
  evalBeacon (onDisp x.channel markDirty { s with pool := editTask x.tag expireTask s.pool })

/-- One elementary change from s to a next state, within a command begun in s₀. Each carries the conditions
under which a command makes it. Those that speak of s₀ say what the command found when it began. -/
inductive Change (s₀ s : State) : State → Prop where
  -- string port
  | segNum (n : Byte) : Change s₀ s { s with segNum := n }
  | ready (d u : Bool) : Change s₀ s { s with dnoRdy := d, upoRdy := u }
  | downCheck (n : Nat) (top : n ≤ 255) : Change s₀ s { s with downCheck := n }
  | downOverrun (n : Nat) (top : n ≤ 255) : Change s₀ s { s with downOverrun := n }
  | upCheck (n : Nat) (top : n ≤ 255) : Change s₀ s { s with upCheck := n }
  | upOverrun (n : Nat) (top : n ≤ 255) : Change s₀ s { s with upOverrun := n }
  | relays (f : Frame) (quiet : s.terminal = false) (room : s.downBuf.length < 4) :
      Change s₀ s { s with downBuf := s.downBuf ++ [f] }
  | receives (f : Frame) (room : s.upBuf.length < 4) : Change s₀ s { s with upBuf := s.upBuf ++ [f] }
  | becomesTerminal : Change s₀ s { s with terminal := true, downBuf := [], dno := abandonDno s.dno }
  | leavesTerminal : Change s₀ s { s with terminal := false }
  | endsBreak : Change s₀ s { s with dno := .idle, breakWait := false }
  | startsDown (f : Frame) (quiet : s.terminal = false) (first : s.downBuf.head? = some f) :
      Change s₀ s { s with dno := .sending f }
  | endsDown : Change s₀ s { s with downBuf := s.downBuf.drop 1, dno := .idle }
  | grants (g : UpoSend) (granted : mergeGrant s = some g) :
      Change s₀ s { s with upo := some g, lastSource := g.source }
  | endsUp : Change s₀ s { s with upo := none, upBuf := s.upBuf.drop 1 }
  -- report queue
  | records (b : ReportBody) (room : placesNeeded b ≤ s.freePlaces)
      (fits : (∀ c : Channel, s₀.slots[c].length ≤ 8) → bodyFits b) : Change s₀ s (record b s)
  | withheld (w : Bool) : Change s₀ s { s with withheld := w }
  -- setup and tables
  | setup (p : List Byte) : Change s₀ s (evalBeacon { s with
      settleMs := (setupOp p).settleMs, doneHoldS := (setupOp p).doneHoldS,
      probationS := (setupOp p).probationS, guardSteps := (setupOp p).guardSteps,
      beaconEnable := (setupOp p).beaconEnable })
  | lanes (new : Tab 8 LaneEntry) : Change s₀ s { s with lanes := new }
  | ranges (new : Tab 16 RangeEntry) : Change s₀ s { s with ranges := new }
  -- tasks
  | posts (x : Task) (pool : s.pool.length < 128) (list : s.slots[x.channel].length < 8)
      (fresh : findTag s.pool x.tag = none) (waits : x.state = .queued) : Change s₀ s (postTask x s)
  | frees (p : Task → Bool) : Change s₀ s (freeListed p s)
  | confirms (c : Channel) (x : Task) (shown : showingOf s c = some x) :
      Change s₀ s (restand (editTask x.tag (confirmTask s.doneHoldUnits) s.pool)
        (updTab s.slots c (·.drop 1)) s)
  | edits (tag : Tag) (f : Task → Task)
      (keeps : ∀ x, (f x).tag = x.tag ∧ (f x).state = x.state ∧ (f x).expired = x.expired) :
      Change s₀ s { s with pool := editTask tag f s.pool }
  | dropsDone (keep : Task → Bool)
      (done : (s₀.pool.map (·.tag)).Nodup → ∀ x ∈ s.pool, keep x = false → x.state = .done) :
      Change s₀ s { s with pool := s.pool.filter keep }
  | expires (x : Task) : Change s₀ s (expireRecord x s)
  -- display records
  | shows (d : Tab 64 DisplayRec) (settle : ∀ c : Channel, SettleFrom s s.disp[c] d[c]) :
      Change s₀ s { s with disp := d }
  -- shelf bus
  | exchanges (x : Option Exchange) (r : List Byte) (k : Channel) (n : Nat)
      (batch : n ≤ s.batchLeft ∨ n ≤ 4) :
      Change s₀ s { s with exchange := x, request := r, cursor := k, batchLeft := n }
  | inventories (m : CtrlState) (k i : Channel) :
      Change s₀ s { s with ctrl := m, cursor := k, inventory := i }
  | visits (c : Channel) (f : BusRec → BusRec) (presence : ∀ b, (f b).presence = b.presence)
      (misses : (f s.bus[c]).misses ≤ s.bus[c].misses ∨ (f s.bus[c]).misses ≤ 2) : Change s₀ s (onBus c f s)
  | describes (c : Channel) (k : Caps) (p : Option Time) (stands : s.bus[c] = s₀.bus[c])
      (asked : s₀.exchange = some (.describe c) ∨ s₀.exchange = some (.inventory c)) :
      Change s₀ s (onBus c (described k p) s)
  | revives (c : Channel) (lost : s.bus[c].presence ≠ .present) : Change s₀ s (startRevive c s)
  | takesOut (c : Channel) (isolated : Bool) : Change s₀ s (takeOut c isolated s)
  -- hold and lamp test
  | holds (h g l : Bool) (tm : Option Time) (d : Tab 64 DisplayRec) (x : Option LampTest)
      (settle : ∀ c : Channel, SettleFrom s s.disp[c] d[c]) (same : x = s.test ∨ x = none)
      (ends : (h || g) = true → s.held = true ∨ x = none)
      (guarded : GuardStands s → (g = true ↔ l = true ∨ tm.isSome = true) ∧ (l = true → tm = none)) :
      Change s₀ s { s with head := h, guard := g, guardLine := l, guardTimer := tm, disp := d, test := x }
  | tests (x : LampTest) (free : s.held = false) (present : ∀ c ∈ x.set, s.bus[c].presence = .present) :
      Change s₀ s { s with test := some x }
  | endsTest : Change s₀ s { s with test := none }

/-- A chain of elementary changes within a command begun in s₀. -/
abbrev Changes (s₀ s t : State) : Prop := Relation.ReflTransGen (Change s₀) s t

/-- What every elementary change keeps, every chain of them keeps. -/
theorem Changes.keeps {s₀ s t : State} (h : Changes s₀ s t) {P : State → Prop}
    (step : ∀ u v, Change s₀ u v → P u → P v) (start : P s) : P t := by
  induction h with
  | refl => exact start
  | tail _ last ih => exact step _ _ last ih

/-- A fold of chains is a chain. -/
theorem Changes.foldl {α : Type} {s₀ : State} {f : State → α → State}
    (each : ∀ s x, Changes s₀ s (f s x)) (l : List α) (s : State) : Changes s₀ s (l.foldl f s) := by
  induction l generalizing s with
  | nil => exact .refl
  | cons x xs ih => exact (each s x).trans (ih (f s x))

/-! ### Settle windows -/

/-- The settle end a window start gives depends on the settle fields alone (R50). -/
theorem startSettle_congr (t : Time) (n : Nat) {d d' : DisplayRec} (he : d'.settleEnd = d.settleEnd)
    (hp : d'.settlePassed = d.settlePassed) :
    (startSettle t n d').settleEnd = (startSettle t n d).settleEnd ∧
      (startSettle t n d').settlePassed = (startSettle t n d).settlePassed := by
  simp only [startSettle, he, hp]
  split
  · exact ⟨rfl, rfl⟩
  · split
    · exact ⟨rfl, rfl⟩
    · exact ⟨he, hp⟩

theorem SettleFrom.refl (s : State) (d : DisplayRec) : SettleFrom s d d := .inl ⟨rfl, rfl⟩

/-- A dirty mark is no settle field. -/
theorem SettleFrom.marks {s : State} {d d' : DisplayRec} (h : SettleFrom s d d') {p : Prop} [Decidable p] :
    SettleFrom s d (if p then markDirty d' else d') := by
  split
  · exact h
  · exact h

/-- A window started on a record whose settle fields stand. -/
theorem SettleFrom.started {s : State} {d d' : DisplayRec} (he : d'.settleEnd = d.settleEnd)
    (hp : d'.settlePassed = d.settlePassed) : SettleFrom s d (startSettle s.time s.settleUnits d') :=
  .inr (startSettle_congr s.time s.settleUnits he hp)

/-- A head change leaves the settle fields or starts a window (R60, R99, R100). -/
theorem SettleFrom.headChange (s : State) (nowEmpty : Bool) (d : DisplayRec) :
    SettleFrom s d (headChange s.time s.settleUnits nowEmpty d) := by
  unfold Machine.headChange
  cases nowEmpty with
  | true => exact .inl ⟨rfl, rfl⟩
  | false => exact .started rfl rfl

/-- Every channel's settle fields after an event that changes pool and lists. -/
theorem restand_settle (pool : List Task) (slots : Tab 64 (List Tag)) (s : State) (c : Channel) :
    SettleFrom s s.disp[c] (restand pool slots s).disp[c] := by
  rw [restand_disp]
  split
  · exact .refl s _
  · exact .headChange s _ _

/-- A change of one display record that leaves its settle fields or starts a window. -/
theorem updTab_settle {s : State} {c : Channel} {f : DisplayRec → DisplayRec}
    (h : SettleFrom s s.disp[c] (f s.disp[c])) (e : Channel) :
    SettleFrom s s.disp[e] (updTab s.disp c f)[e] := by
  by_cases same : c = e
  · subst same
    simpa using h
  · have other : (updTab s.disp c f)[e] = s.disp[e] := getElem_updTab_ne s.disp same f
    rw [other]
    exact .refl s _

theorem onDisp_changes {s₀ s : State} (c : Channel) {f : DisplayRec → DisplayRec}
    (h : SettleFrom s s.disp[c] (f s.disp[c])) : Changes s₀ s (onDisp c f s) :=
  .single (.shows _ (updTab_settle h))

/-- A change of all display records that leaves their settle fields or starts windows. -/
theorem mapDisp_changes {s₀ s : State} {f : Channel → DisplayRec → DisplayRec}
    (h : ∀ c d, SettleFrom s d (f c d)) : Changes s₀ s { s with disp := mapTab s.disp f } := by
  refine .single (.shows _ fun c => ?_)
  have reads : (mapTab s.disp f)[c] = f c s.disp[c] := getElem_mapTab s.disp f c.val c.isLt
  rw [reads]
  exact h c _

theorem onDisps_changes {s₀ s : State} (p : Channel → Bool) {f : DisplayRec → DisplayRec}
    (h : ∀ d, SettleFrom s d (f d)) : Changes s₀ s (onDisps p f s) := by
  refine mapDisp_changes fun c d => ?_
  split
  · exact h d
  · exact .refl s d

/-! ### Reports, relays, counts -/

/-- The beacon does not look at the report queue. -/
theorem evalBeacon_offer (b : ReportBody) (s : State) : evalBeacon (offer b s) = offer b (evalBeacon s) := by
  unfold offer
  have same : (evalBeacon s).freePlaces = s.freePlaces := rfl
  rw [same]
  split <;> rfl

/-- An offer is a record taken in or the advisory-withheld mark (R174, R175). -/
theorem offer_changes {s₀ : State} {b : ReportBody} (s : State)
    (fits : (∀ c : Channel, s₀.slots[c].length ≤ 8) → bodyFits b) : Changes s₀ s (offer b s) := by
  rcases offer_cases b s with ⟨room, e⟩ | ⟨_, e⟩
  · rw [e]
    exact .single (.records b room fits)
  · rw [e]
    exact .single (.withheld true)

/-- A relay into a buffer with room (R6). -/
theorem relayDown_changes {s₀ s : State} (f : Frame) (room : s.downBuf.length < 4) :
    Changes s₀ s (relayDown f s) := by
  unfold relayDown
  by_cases quiet : s.terminal = true
  · rw [if_pos quiet]
  · rw [if_neg quiet]
    exact .single (.relays f (by simpa using quiet) room)

/-- A count never passes 255 (R5). -/
theorem bump_le (n : Nat) : bump n ≤ 255 := Nat.min_le_right _ _

theorem countCheck_changes {s₀ : State} (lane : StringLane) (s : State) : Changes s₀ s (countCheck lane s) := by
  cases lane with
  | down => exact .single (.downCheck _ (bump_le _))
  | up => exact .single (.upCheck _ (bump_le _))

theorem countOverrun_changes {s₀ : State} (lane : StringLane) (s : State) :
    Changes s₀ s (countOverrun lane s) := by
  cases lane with
  | down => exact .single (.downOverrun _ (bump_le _))
  | up => exact .single (.upOverrun _ (bump_le _))

/-- A completed down frame: counted, or dispatched into a buffer with room (R4). -/
theorem receiveDown_changes {s₀ s : State} {f : Frame} {act : Frame → State → State}
    (dispatched : s.downBuf.length < 4 → Changes s₀ s (act f s)) : Changes s₀ s (receiveDown f act s) := by
  rcases receiveDown_cases f act s with ⟨_, e⟩ | ⟨_, _, e⟩ | ⟨_, room, e⟩
  · rw [e]
    exact countCheck_changes .down s
  · rw [e]
    exact countOverrun_changes .down s
  · rw [e]
    exact dispatched room

/-- Everything a completed up frame can do (R4, R16). -/
theorem receiveUp_cases (f : Frame) (s : State) :
    (checkUp f ≠ .good ∧ receiveUp f s = countCheck .up s) ∨
    (checkUp f = .good ∧ 4 ≤ s.upBuf.length ∧ receiveUp f s = countOverrun .up s) ∨
    (checkUp f = .good ∧ s.upBuf.length < 4 ∧ receiveUp f s = { s with upBuf := s.upBuf ++ [f] }) := by
  unfold receiveUp
  cases checkUp f with
  | badCheck => exact .inl ⟨by simp, rfl⟩
  | malformed => exact .inl ⟨by simp, rfl⟩
  | good =>
    refine .inr ?_
    by_cases room : s.upBuf.length < 4
    · exact .inr ⟨rfl, room, if_pos room⟩
    · exact .inl ⟨rfl, Nat.le_of_not_lt room, if_neg room⟩

theorem receiveUp_changes {s₀ : State} (f : Frame) (s : State) : Changes s₀ s (receiveUp f s) := by
  rcases receiveUp_cases f s with ⟨_, e⟩ | ⟨_, _, e⟩ | ⟨_, room, e⟩
  · rw [e]
    exact countCheck_changes .up s
  · rw [e]
    exact countOverrun_changes .up s
  · rw [e]
    exact .single (.receives f room)

/-! ### Holds, misses, exchanges -/

/-- What a new hold set does to the rest of the state: display records and the lamp test (R157, R162, R163). -/
theorem setHold_form (h g : Bool) (s : State) :
    ∃ d x, setHold h g s = { s with head := h, guard := g, disp := d, test := x } ∧
      (∀ c : Channel, SettleFrom s s.disp[c] d[c]) ∧ (x = s.test ∨ x = none) ∧
      ((h || g) = true → s.held = true ∨ x = none) := by
  unfold setHold
  by_cases same : s.held = (h || g)
  · rw [if_pos same]
    exact ⟨s.disp, s.test, rfl, fun c => .refl s _, .inl rfl, fun on => .inl (same.trans on)⟩
  · rw [if_neg same]
    cases held : s.held with
    | true =>
      rw [if_pos rfl]
      refine ⟨_, s.test, rfl, fun c => ?_, .inl rfl, fun _ => .inl rfl⟩
      simp only [Fin.getElem_fin, getElem_mapTab]
      split
      · exact .started rfl rfl
      · exact .refl s _
    | false =>
      rw [if_neg (by simp)]
      refine ⟨_, none, rfl, fun c => ?_, .inr rfl, fun _ => .inr rfl⟩
      simp only [onDisps, Fin.getElem_fin, getElem_mapTab]
      exact (SettleFrom.refl s _).marks.marks

/-- A new hold set whose guard part agrees with the GUARD line and its release timer (R160, R161). -/
theorem setHold_changes {s₀ s : State} (h g l : Bool) (tm : Option Time)
    (guarded : GuardStands s → (g = true ↔ l = true ∨ tm.isSome = true) ∧ (l = true → tm = none)) :
    Changes s₀ s (setHold h g { s with guardLine := l, guardTimer := tm }) := by
  obtain ⟨d, x, e, settle, same, ends⟩ := setHold_form h g { s with guardLine := l, guardTimer := tm }
  rw [e]
  exact .single (.holds h g l tm d x settle same ends guarded)

/-- HEAD joins or leaves the hold set (R158, R159). -/
theorem setHead_changes {s₀ s : State} (h : Bool) : Changes s₀ s (setHold h s.guard s) :=
  setHold_changes h s.guard s.guardLine s.guardTimer id

/-- A channel lost is the channel taken out, and its MODULE_FAULT offered (R145, R146). -/
theorem failChannel_eq (c : Channel) (isolated : Bool) (s : State) :
    failChannel c isolated s = offer (.moduleFault c isolated s.slots[c].head?) (takeOut c isolated s) :=
  evalBeacon_offer _ _

theorem failChannel_changes {s₀ : State} (c : Channel) (isolated : Bool) (s : State) :
    Changes s₀ s (failChannel c isolated s) := by
  rw [failChannel_eq]
  exact .head (.takesOut c isolated) (offer_changes _ fun _ => trivial)

theorem answered_changes {s₀ : State} (c : Channel) (s : State) : Changes s₀ s (answered c s) :=
  .single (.visits c _ (fun _ => rfl) (.inr (Nat.zero_le 2)))

/-- A miss counts on below the third, and returns the count to 0 at it (R144). -/
theorem miss_changes {s₀ : State} (c : Channel) (s : State) : Changes s₀ s (miss c s) := by
  rcases miss_cases c s with ⟨below, e⟩ | ⟨_, _, e⟩ | ⟨_, _, e⟩ | ⟨_, _, _, e⟩
  · rw [e]
    exact .single (.visits c _ (fun _ => rfl) (.inr (Nat.le_of_lt_succ below)))
  · rw [e]
    exact failChannel_changes c _ s
  · rw [e]
    exact failChannel_changes c true s
  · rw [e]
    exact .single (.visits c _ (fun _ => rfl) (.inr (Nat.zero_le 2)))

theorem endExchange_changes {s₀ : State} (s : State) : Changes s₀ s (endExchange s) :=
  .single (.exchanges none [] s.cursor s.batchLeft (.inl le_rfl))

theorem endVisit_changes {s₀ : State} (s : State) : Changes s₀ s (endVisit s) :=
  .single (.exchanges none [] s.cursor 4 (.inr le_rfl))

/-! ### Expiries -/

/-- An expired deadline is the record's expiry, and its EXPIRED offered (R74). -/
theorem expireDeadline_eq (x : Task) (s : State) :
    expireDeadline x s = offer (.expired x.tag x.loc x.channel x.lane) (expireRecord x s) :=
  evalBeacon_offer _ _

theorem expireDeadline_changes {s₀ : State} (x : Task) (s : State) : Changes s₀ s (expireDeadline x s) := by
  rw [expireDeadline_eq]
  exact .head (.expires x) (offer_changes _ fun _ => trivial)

theorem expireBlink_changes {s₀ : State} (c : Channel) (s : State) : Changes s₀ s (expireBlink c s) :=
  onDisp_changes c (.inl ⟨rfl, rfl⟩)

theorem expireProbation_changes {s₀ : State} (c : Channel) (s : State) : Changes s₀ s (expireProbation c s) :=
  .single (.visits c _ (fun _ => rfl) (.inl le_rfl))

theorem endTestByExpiry_changes {s₀ : State} (s : State) : Changes s₀ s (endTestByExpiry s) := by
  refine .tail (mapDisp_changes fun c d => ?_) .endsTest
  split
  · exact .started rfl rfl
  · exact .refl s d

/-- The release timer's end takes GUARD out of the hold set (R161). -/
theorem expireGuard_changes {s₀ s : State} (runs : s.guardTimer.isSome = true) :
    Changes s₀ s (expireGuard s) := by
  refine setHold_changes s.head false s.guardLine none fun stands => ?_
  have released : s.guardLine = false := by
    cases line : s.guardLine with
    | false => rfl
    | true => simp [stands.2 line] at runs
  simp [released]

/-- An end time that is reached belongs to a timer that runs. -/
theorem reached_isSome {t : Time} {e : Option Time} (h : reached t e = true) : e.isSome = true := by
  cases e with
  | none => cases h
  | some _ => rfl

/-- The expiries an advance takes first (log 8). -/
theorem flushExpiries_changes {s₀ : State} (s : State) : Changes s₀ s (flushExpiries s) := by
  unfold flushExpiries
  extract_lets expired freed blinks probations tested
  have cExpired : Changes s₀ s expired := Changes.foldl (fun s x => expireDeadline_changes x s) _ _
  have cFreed : Changes s₀ s freed := cExpired.tail <| .dropsDone _ fun _ x _ kept => by
    have due : expired.holdDue x = true := by simpa using kept
    exact ((holdDue_iff expired x).mp due).1
  have cBlinks : Changes s₀ s blinks := cFreed.trans (Changes.foldl (fun s c => expireBlink_changes c s) _ _)
  have cProbations : Changes s₀ s probations :=
    cBlinks.trans (Changes.foldl (fun s c => expireProbation_changes c s) _ _)
  have cTested : Changes s₀ s tested := by
    unfold tested
    split
    · exact cProbations.trans (endTestByExpiry_changes _)
    · exact cProbations
  split
  · exact cTested.trans (expireGuard_changes (reached_isSome ‹_›))
  · exact cTested

end Sys2Proof.Machine
end

section
/-! PROOFS. Every command is a chain of elementary changes, a reset, an advance or the removal of a sent
report. -/

namespace Sys2Proof.Machine

/-! ### Management frames (R13, R179) -/

/-- What an owning block does with a management frame and gives back for it: elementary changes that leave
report queue and down relay buffer alone, and a body of the frame's kind. -/
structure ActKeeps (k : Kind) (s : State) (r : State × Answer) : Prop where
  changes : Changes s s r.1
  queue : r.1.queue = s.queue
  downBuf : r.1.downBuf = s.downBuf
  fits : (∀ c : Channel, s.slots[c].length ≤ 8) → bodyFits (.answer k r.2.reason r.2.failing r.2.body)

/-- A refusal changes nothing. -/
theorem ActKeeps.refuses (k : Kind) (s : State) (r : Reason) (i : Option Byte) :
    ActKeeps k s (s, refuseWith r i) := ⟨.refl, rfl, rfl, fun _ => trivial⟩

/-- The room a record needs, counted at the queue's length (R172, R174). -/
theorem placesNeeded_le_freePlaces {b : ReportBody} {s : State} (room : s.queue.length + placesNeeded b ≤ 32) :
    placesNeeded b ≤ s.freePlaces := by
  show _ ≤ 32 - s.queue.length
  omega

/-- An addressed management frame: its answer, and what its block changed. -/
theorem answerFrame_changes {k : Kind} {act : State → State × Answer} {s : State}
    (acts : ActKeeps k s (act s)) :
    Changes s s (answerFrame k act s) ∧ (answerFrame k act s).downBuf = s.downBuf := by
  unfold answerFrame
  split
  · rename_i room
    have room : s.queue.length + 1 ≤ 32 := (answerRoom_iff s).mp room
    split
    · exact ⟨.single (.records _ (placesNeeded_le_freePlaces room) fun _ => trivial), rfl⟩
    · have room' : (act s).1.queue.length + 1 ≤ 32 := by rw [acts.queue]; exact room
      exact ⟨acts.changes.tail (.records _ (placesNeeded_le_freePlaces room') acts.fits), acts.downBuf⟩
  · exact ⟨.refl, rfl⟩

/-- A management frame whose owning block makes elementary changes makes them too (R10, R13). -/
theorem managementFrame_changes {k : Kind} {rx : RxFrame} {act : Frame → State → State × Answer} {s : State}
    (acts : ∀ f, ActKeeps k s (act f s)) : Changes s s (managementFrame k rx act s) := by
  refine receiveDown_changes fun room => ?_
  unfold dispatchManagement
  obtain ⟨answered, buf⟩ := answerFrame_changes (acts (frameOf (kindCode k) rx))
  split
  · exact answered
  · exact answered.trans (relayDown_changes _ (by rw [buf]; exact room))
  · exact relayDown_changes _ room

theorem actSetup_keeps (f : Frame) (s : State) : ActKeeps .setup s (actSetup f s) :=
  ⟨.single (.setup f.payload), rfl, rfl, fun _ => rfl⟩

theorem actLanes_keeps (f : Frame) (s : State) : ActKeeps .lanes s (actLanes f s) := by
  unfold actLanes
  extract_lets first w
  split
  · exact .refuses ..
  · split
    · exact .refuses ..
    · split
      · exact .refuses ..
      · exact ⟨.head (.lanes _) (onDisps_changes _ fun _ => .inl ⟨rfl, rfl⟩), rfl, rfl, fun _ => trivial⟩

theorem actRanges_keeps (f : Frame) (s : State) : ActKeeps .ranges s (actRanges f s) := by
  unfold actRanges
  extract_lets first w
  split
  · exact .refuses ..
  · split
    · exact .refuses ..
    · exact ⟨.single (.ranges _), rfl, rfl, fun _ => trivial⟩

theorem actLock_keeps (f : Frame) (s : State) : ActKeeps .lock s (actLock f s) := by
  unfold actLock
  split
  · exact .refuses ..
  · exact ⟨.single (.ranges _), rfl, rfl, fun _ => trivial⟩

theorem actPurge_keeps (f : Frame) (s : State) : ActKeeps .purge s (actPurge f s) := by
  unfold actPurge
  extract_lets b
  split
  · exact ⟨.single (.frees _), rfl, rfl, fun _ => .inl rfl⟩
  · exact .refuses ..

theorem actSweep_keeps (f : Frame) (s : State) : ActKeeps .sweep s (actSweep f s) := by
  unfold actSweep
  split
  · exact .refuses ..
  · exact ⟨.single (.frees _), rfl, rfl, fun _ => .inr rfl⟩
  · exact ⟨.single (.frees _), rfl, rfl, fun _ => .inr rfl⟩

theorem actHold_keeps (f : Frame) (s : State) : ActKeeps .hold s (actHold f s) := by
  unfold actHold
  split
  · exact .refuses ..
  · exact ⟨setHead_changes true, by simp, by simp, fun _ => trivial⟩

theorem actResume_keeps (f : Frame) (s : State) : ActKeeps .resume s (actResume f s) := by
  unfold actResume
  split
  · exact ⟨setHead_changes false, by simp, by simp, fun _ => trivial⟩
  · exact .refuses ..

theorem startRevive_keeps {c : Channel} {s : State} (lost : s.presenceOf c ≠ .present) :
    ActKeeps .revive s (startRevive c s, okWith .none) :=
  ⟨.single (.revives c lost), rfl, rfl, fun _ => trivial⟩

theorem actRevive_keeps (f : Frame) (s : State) : ActKeeps .revive s (actRevive f s) := by
  unfold actRevive
  extract_lets b forced
  split
  · extract_lets c
    cases p : s.presenceOf c with
    | present => exact .refuses ..
    | reviving => exact .refuses ..
    | isolated =>
      dsimp only
      split
      · exact startRevive_keeps (by simp [p])
      · exact .refuses ..
    | faulted => exact startRevive_keeps (by simp [p])
    | absent => exact startRevive_keeps (by simp [p])
  · exact .refuses ..

/-- The test set is of PRESENT channels (R165). -/
theorem present_of_mem_testSet {s : State} {c : Channel} (h : c ∈ testSet s) : s.bus[c].presence = .present := by
  have both : s.isPresent c = true ∧ testPermitted s.ranges c = true := by simpa [testSet] using h
  simpa [State.isPresent] using both.1

theorem actTest_keeps (f : Frame) (s : State) : ActKeeps .test s (actTest f s) := by
  unfold actTest
  split
  · exact .refuses ..
  · split
    · exact .refuses ..
    · rename_i free
      have marked : Changes s s (onDisps (fun c => s.inTest c || (testSet s).contains c) markDirty s) :=
        onDisps_changes _ fun _ => .inl ⟨rfl, rfl⟩
      have free : s.held = false := Bool.eq_false_of_not_eq_true free
      exact ⟨marked.tail (.tests _ free fun _ => present_of_mem_testSet), rfl, rfl, fun _ => rfl⟩

theorem actAskStatus_keeps (f : Frame) (s : State) : ActKeeps .askStatus s (actAskStatus f s) := by
  have cleared : Changes s s (actAskStatus f s).1 :=
    ((((Relation.ReflTransGen.single (.withheld false)).tail (.downCheck 0 (Nat.zero_le _))).tail
      (.downOverrun 0 (Nat.zero_le _))).tail (.upCheck 0 (Nat.zero_le _))).tail (.upOverrun 0 (Nat.zero_le _))
  exact ⟨cleared, rfl, rfl, fun _ => rfl⟩

theorem actAskSlot_keeps (f : Frame) (s : State) : ActKeeps .askSlot s (actAskSlot f s) := by
  unfold actAskSlot
  extract_lets b
  split
  · exact ⟨.refl, rfl, rfl, fun lists => ⟨rfl, lists _⟩⟩
  · exact .refuses ..

theorem actAskTask_keeps (f : Frame) (s : State) : ActKeeps .askTask s (actAskTask f s) := by
  unfold actAskTask
  split
  · exact ⟨.refl, rfl, rfl, fun _ => rfl⟩
  · exact .refuses ..

/-! ### Task frames (R11, R12) -/

/-- A task frame whose meaning makes elementary changes makes them too. -/
theorem claimFrame_changes {k : Kind} {tag : Tag} {loc : Location} {room : Bool}
    {act : EntryNo → Channel → State → State} {f : Frame} {s : State} (buf : s.downBuf.length < 4)
    (acts : ∀ i c, room = true → Changes s s (act i c s) ∧ (act i c s).downBuf = s.downBuf) :
    Changes s s (claimFrame k tag loc room act f s) := by
  have passes : Changes s s (passFrame k tag loc f s) := by
    unfold passFrame
    split
    · exact offer_changes s fun _ => trivial
    · exact relayDown_changes f buf
  unfold claimFrame
  split
  · exact passes
  · rename_i i c _
    split
    · have offered : Changes s s (offer (.doubleClaim tag loc) s) := offer_changes s fun _ => trivial
      exact offered.trans (relayDown_changes f (by simpa using buf))
    · split
      · obtain ⟨acted, same⟩ := acts i c ‹_›
        exact acted.trans (relayDown_changes _ (by rw [same]; exact buf))
      · exact passes

theorem refuseTask_changes (k : Kind) (tag : Tag) (loc : Location) (c : Channel) (r : RefuseReason) (s : State) :
    Changes s s (refuseTask k tag loc c r s) ∧ (refuseTask k tag loc c r s).downBuf = s.downBuf :=
  ⟨offer_changes s fun _ => trivial, offer_downBuf s _⟩

/-- No check of a list fails exactly when each of them passes. -/
theorem firstFailing_eq_none {α : Type} {l : List (Bool × α)} :
    firstFailing l = none ↔ ∀ x ∈ l, x.1 = false := by
  induction l with
  | nil => simp [firstFailing]
  | cons x xs ih =>
    obtain ⟨fails, r⟩ := x
    cases fails <;> simp [firstFailing, ih]

/-- A POST that passes its checks finds room in list and pool, and its tag is not live (R65). -/
theorem room_of_postCheck {s : State} {i : EntryNo} {c : Channel} {v : PostOp}
    (passes : postCheck s i c v = none) :
    s.pool.length < 128 ∧ s.slots[c].length < 8 ∧ findTag s.pool v.tag = none := by
  have all := firstFailing_eq_none.mp passes
  simp only [List.forall_mem_cons, decide_eq_false_iff_not, Nat.not_le, Option.isSome_eq_false_iff,
    Option.isNone_iff_eq_none] at all
  obtain ⟨-, -, -, -, -, fresh, -, list, pool, -⟩ := all
  exact ⟨pool, list, fresh⟩

theorem actPost_changes (v : PostOp) (i : EntryNo) (c : Channel) (s : State) :
    Changes s s (actPost v i c s) ∧ (actPost v i c s).downBuf = s.downBuf := by
  unfold actPost
  split
  · exact refuseTask_changes ..
  · obtain ⟨pool, list, fresh⟩ := room_of_postCheck ‹_›
    exact ⟨.single (.posts _ pool list fresh rfl), rfl⟩

/-- A walk posts only where list and pool have room and the candidate tag is not live (R106, R109). -/
theorem walkStep_post {v : RunOp} {i : EntryNo} {k : Nat} {l : Location} {s : State} {x : Task}
    (h : walkStep v i k l s = .post x) :
    s.pool.length < 128 ∧ s.slots[x.channel].length < 8 ∧ findTag s.pool x.tag = none ∧ x.state = .queued := by
  unfold walkStep at h
  extract_lets c at h
  split_ifs at h with _ _ _ _ list pool live
  cases h
  exact ⟨Nat.lt_of_not_le pool, Nat.lt_of_not_le list, Option.not_isSome_iff_eq_none.mp live, rfl⟩

/-- A walk is a chain of posts (R106). -/
theorem walk_changes {s₀ : State} (v : RunOp) (i : EntryNo) (fuel k left : Nat) (l : Location) (s : State) :
    Changes s₀ s (walk v i fuel k left l s).state ∧ (walk v i fuel k left l s).state.queue = s.queue ∧
      (walk v i fuel k left l s).state.downBuf = s.downBuf := by
  induction fuel generalizing k left l s with
  | zero => exact ⟨.refl, rfl, rfl⟩
  | succ fuel ih =>
    unfold walk
    split
    · exact ⟨.refl, rfl, rfl⟩
    · split
      · exact ⟨.refl, rfl, rfl⟩
      · exact ih ..
    · rename_i x step
      obtain ⟨pool, list, fresh, waits⟩ := walkStep_post step
      have posted : Changes s₀ s (postTask x s) := .single (.posts x pool list fresh waits)
      extract_lets s'
      split
      · exact ⟨posted, rfl, rfl⟩
      · split
        · exact ⟨posted, rfl, rfl⟩
        · obtain ⟨walked, queue, buf⟩ := ih (k + 1) (left - 1) ‹_› s'
          exact ⟨posted.trans walked, queue, buf⟩

theorem actRun_changes (v : RunOp) (i : EntryNo) (c : Channel) (s : State) (room : s.essentialRoom = true) :
    Changes s s (actRun v i c s) ∧ (actRun v i c s).downBuf = s.downBuf := by
  unfold actRun
  split
  · exact refuseTask_changes ..
  · obtain ⟨walked, queue, buf⟩ := walk_changes (s₀ := s) v i Config.walkRoom 0 v.count v.start s
    have room : s.queue.length + 2 ≤ 32 := (essentialRoom_iff s).mp room
    exact ⟨walked.tail (.records _ (placesNeeded_le_freePlaces (by rw [queue]; exact room)) fun _ => trivial), buf⟩

theorem actAmend_changes (v : TagOp) (i : EntryNo) (c : Channel) (s : State) :
    Changes s s (actAmend v i c s) ∧ (actAmend v i c s).downBuf = s.downBuf := by
  have edited : Changes s s { s with pool := editTask v.tag (amendTask v.q) s.pool } :=
    .single (.edits v.tag (amendTask v.q) fun _ => ⟨rfl, rfl, rfl⟩)
  unfold actAmend
  split
  · exact refuseTask_changes ..
  · split
    · exact refuseTask_changes ..
    · split
      · exact refuseTask_changes ..
      · exact ⟨edited, rfl⟩
      · exact ⟨edited.trans (onDisp_changes c (.started rfl rfl)), rfl⟩

/-- The record found on a channel carries the tag and is live (R58). -/
theorem findOn_some {pool : List Task} {c : Channel} {tag : Tag} {x : Task} (h : findOn pool c tag = some x) :
    x ∈ pool ∧ x.tag = tag ∧ x.channel = c := by
  unfold findOn at h
  exact ⟨List.mem_of_find?_eq_some h, by simpa using List.find?_some h⟩

/-- A tag names one record. -/
theorem eq_of_tag_eq {pool : List Task} (nodup : (pool.map (·.tag)).Nodup) {x y : Task} (hx : x ∈ pool)
    (hy : y ∈ pool) (h : x.tag = y.tag) : x = y :=
  List.inj_on_of_nodup_map nodup hx hy h

/-- Freeing a DONE record (R57, R73, R77). -/
theorem freeDone_changes {s : State} {x : Task} (live : x ∈ s.pool) (done : x.state = .done) :
    Changes s s (freeDone x.tag s) := by
  refine .single (.dropsDone _ fun nodup y mem gone => ?_)
  have same : y = x := eq_of_tag_eq nodup mem live (by simpa using gone)
  rw [same]
  exact done

theorem lateWithdraw_changes {s : State} {x : Task} (live : x ∈ s.pool) (done : x.state = .done) :
    Changes s s (lateWithdraw x s) ∧ (lateWithdraw x s).downBuf = s.downBuf := by
  unfold lateWithdraw
  split
  · have room : s.queue.length + 2 ≤ 32 := (essentialRoom_iff s).mp ‹_›
    exact ⟨(freeDone_changes live done).tail (.records _ (placesNeeded_le_freePlaces room) fun _ => trivial), rfl⟩
  · exact ⟨.single (.withheld true), rfl⟩

theorem actWithdraw_changes (v : TagOp) (i : EntryNo) (c : Channel) (s : State) :
    Changes s s (actWithdraw v i c s) ∧ (actWithdraw v i c s).downBuf = s.downBuf := by
  unfold actWithdraw
  split
  · exact refuseTask_changes ..
  · obtain ⟨live, _, _⟩ := findOn_some ‹_›
    split
    · exact lateWithdraw_changes live ‹_›
    · exact ⟨.single (.frees _), rfl⟩
    · exact ⟨.single (.frees _), rfl⟩

theorem actRelease_changes (v : TagOp) (i : EntryNo) (c : Channel) (s : State) :
    Changes s s (actRelease v i c s) ∧ (actRelease v i c s).downBuf = s.downBuf := by
  unfold actRelease
  split
  · exact ⟨.refl, rfl⟩
  · obtain ⟨live, tag, _⟩ := findOn_some ‹_›
    split
    · exact ⟨tag ▸ freeDone_changes live ‹_›, rfl⟩
    · exact refuseTask_changes ..
    · exact refuseTask_changes ..

/-! ### The string port -/

theorem execLineBreak_waiting {p g : Bool} {s t : State} (waits : s.breakWait = true)
    (h : execLineBreak p g s = .next t) : Changes s s t := by
  unfold execLineBreak at h
  rw [if_pos waits] at h
  cases h
  exact .refl

theorem execBreakRelayEnd_changes {s t : State} (h : execBreakRelayEnd s = .next t) : Changes s s t := by
  unfold execBreakRelayEnd at h
  split at h <;> cases h
  exact .single .endsBreak

theorem execTerminalStatusChange_changes {p : Bool} {s t : State}
    (h : execTerminalStatusChange p s = .next t) : Changes s s t := by
  unfold execTerminalStatusChange at h
  split at h
  · cases h
    exact .refl
  · split at h <;> cases h
    · exact .single .becomesTerminal
    · exact .single .leavesTerminal

theorem execFrameEarlyDiscard_changes {lane : StringLane} {cause : EarlyCause} {s t : State}
    (h : execFrameEarlyDiscard lane cause s = .next t) : Changes s s t := by
  cases h
  split
  · exact countCheck_changes lane s
  · exact .refl

theorem execDiscardedFrame_changes {lane : StringLane} {kind : Byte} {rx : RxFrame} {s t : State}
    (h : execDiscardedFrame lane kind rx s = .next t) : Changes s s t := by
  unfold execDiscardedFrame at h
  extract_lets f at h
  cases lane with
  | down =>
    dsimp only at h
    split at h
    · cases h
      exact countCheck_changes .down s
    · cases h
      exact countCheck_changes .down s
    · split at h <;> cases h
      exact countOverrun_changes .down s
  | up =>
    dsimp only at h
    split at h
    · cases h
      exact .refl
    · split at h
      · cases h
        exact countCheck_changes .up s
      · cases h
        exact countCheck_changes .up s
      · split at h <;> cases h
        exact countOverrun_changes .up s

theorem execUnknownKindFrame_changes {kind : Byte} {rx : RxFrame} {s t : State}
    (h : execUnknownKindFrame kind rx s = .next t) : Changes s s t := by
  unfold execUnknownKindFrame at h
  split at h <;> cases h
  exact receiveDown_changes fun room => relayDown_changes _ room

theorem dispatchEnumerate_changes {f : Frame} {s : State} (buf : s.downBuf.length < 4) :
    Changes s s (dispatchEnumerate f s) := by
  unfold dispatchEnumerate
  extract_lets n t
  have numbered : Changes s s t := .single (.segNum (numberTaken n))
  split
  · split
    · have room : t.queue.length + 1 ≤ 32 := (answerRoom_iff s).mp ‹_›
      exact numbered.tail (.records _ (placesNeeded_le_freePlaces room) fun _ => trivial)
    · exact .refl
  · exact numbered.trans (relayDown_changes _ buf)

theorem execUpFrameAccepted_changes {kind : Byte} {rx : RxFrame} {s t : State}
    (h : execUpFrameAccepted kind rx s = .next t) : Changes s s t := by
  cases h
  split
  · exact .refl
  · exact receiveUp_changes _ s

theorem execDownRelayStart_changes {rdy : Bool} {s t : State}
    (h : execDownRelayStart rdy s = .next t) : Changes s s t := by
  have sampled : Changes s s { s with dnoRdy := rdy } := .single (.ready rdy s.upoRdy)
  unfold execDownRelayStart at h
  dsimp only at h
  split at h
  · cases h
    exact sampled
  · rename_i f rest buf
    split at h <;> cases h
    · rename_i may
      have quiet : s.terminal = false := by
        cases q : s.terminal <;> simp_all
      exact sampled.tail (.startsDown f quiet (by simp [buf]))
    · exact sampled

theorem execDownRelayComplete_changes {s t : State} (h : execDownRelayComplete s = .next t) :
    Changes s s t := by
  unfold execDownRelayComplete at h
  split at h <;> cases h
  exact .single .endsDown

theorem execUpMergeGrant_changes {rdy : Bool} {s t : State} (h : execUpMergeGrant rdy s = .next t) :
    Changes s s t := by
  have sampled : Changes s s { s with upoRdy := rdy } := .single (.ready s.dnoRdy rdy)
  unfold execUpMergeGrant at h
  dsimp only at h
  split at h
  · split at h <;> cases h
    · exact sampled
    · exact sampled.tail (.grants _ ‹_›)
  · cases h
    exact sampled

theorem execUpRelayComplete_changes {s t : State} (h : execUpRelayComplete s = .next t) : Changes s s t := by
  unfold execUpRelayComplete at h
  split at h
  · split at h <;> cases h
    exact .single .endsUp
  · cases h

/-! ### Timers and the GUARD line -/

theorem execDeadlineExpiry_changes {c : Channel} {s t : State} (h : execDeadlineExpiry c s = .next t) :
    Changes s s t := by
  unfold execDeadlineExpiry at h
  split at h
  · split at h <;> cases h
    exact expireDeadline_changes _ s
  · cases h

theorem execDoneHoldExpiry_changes {tag : Tag} {s t : State} (h : execDoneHoldExpiry tag s = .next t) :
    Changes s s t := by
  unfold execDoneHoldExpiry at h
  split at h
  · rename_i x found
    obtain ⟨live, same⟩ := findTag_some found
    split at h <;> cases h
    have done : x.state = .done := ((holdDue_iff s x).mp ‹_›).1
    exact same ▸ freeDone_changes live done
  · cases h

theorem execWaitBlinkExpiry_changes {c : Channel} {s t : State} (h : execWaitBlinkExpiry c s = .next t) :
    Changes s s t := by
  unfold execWaitBlinkExpiry at h
  split at h <;> cases h
  exact expireBlink_changes c s

theorem execProbationExpiry_changes {c : Channel} {s t : State} (h : execProbationExpiry c s = .next t) :
    Changes s s t := by
  unfold execProbationExpiry at h
  split at h <;> cases h
  exact expireProbation_changes c s

theorem execLampTestExpiry_changes {s t : State} (h : execLampTestExpiry s = .next t) : Changes s s t := by
  unfold execLampTestExpiry at h
  split at h <;> cases h
  exact endTestByExpiry_changes s

theorem execGuardAssertion_changes {s t : State} (h : execGuardAssertion s = .next t) : Changes s s t := by
  cases h
  exact setHold_changes s.head true true none fun _ => by simp

theorem execGuardRelease_changes {s t : State} (h : execGuardRelease s = .next t) : Changes s s t := by
  unfold execGuardRelease at h
  split at h
  · rename_i asserted
    extract_lets u at h
    have released : Changes s s u := by
      refine .single (.holds s.head s.guard false _ s.disp s.test (fun c => .refl s _) (.inl rfl) .inl ?_)
      intro stands
      simp [stands.1.mpr (.inl asserted)]
    cases h
    split
    · exact released.trans (expireGuard_changes rfl)
    · exact released
  · cases h
    exact .refl

theorem execGuardReleaseTimerExpiry_changes {s t : State} (h : execGuardReleaseTimerExpiry s = .next t) :
    Changes s s t := by
  unfold execGuardReleaseTimerExpiry at h
  split at h <;> cases h
  exact expireGuard_changes (reached_isSome ‹_›)

/-! ### The shelf bus -/

theorem visitRunning_changes (s : State) : Changes s s (visitRunning s) := by
  unfold visitRunning
  split
  · exact .refl
  · exact .single (.exchanges _ _ _ 0 (.inr (Nat.zero_le 4)))

theorem execVisit_changes {s t : State} (h : execVisit s = .next t) : Changes s s t := by
  unfold execVisit at h
  split at h
  · cases h
  · split at h
    · cases h
      exact .refl
    · split at h <;> cases h
      · exact .single (.exchanges _ _ s.cursor 0 (.inr (Nat.zero_le 4)))
      · exact visitRunning_changes s

theorem execShowStart_changes {s t : State} (h : execShowStart s = .next t) : Changes s s t := by
  unfold execShowStart at h
  split at h
  · cases h
  · split at h
    · cases h
      exact .refl
    · split at h
      · cases h
        exact .single (.exchanges s.exchange s.request s.cursor 0 (.inr (Nat.zero_le 4)))
      · split at h <;> cases h
        exact (onDisp_changes _ (.inl ⟨rfl, rfl⟩)).tail
          (.exchanges _ _ s.cursor (s.batchLeft - 1) (.inl (Nat.sub_le _ 1)))

theorem adjustPress_changes {s₀ : State} (c : Channel) (s : State) : Changes s₀ s (adjustPress c s) := by
  unfold adjustPress
  split
  · exact .refl
  · split
    · exact .refl
    · split
      · exact .refl
      · split
        · exact .refl
        · exact .head (.edits _ adjustTask fun _ => ⟨rfl, rfl, rfl⟩) (onDisp_changes c (.inl ⟨rfl, rfl⟩))

theorem takeConfirm_changes {s₀ : State} {c : Channel} {x : Task} {s : State} (shown : showingOf s c = some x)
    (room : s.essentialRoom = true) : Changes s₀ s (takeConfirm c x s) := by
  have room : s.queue.length + 2 ≤ 32 := (essentialRoom_iff s).mp room
  exact (Relation.ReflTransGen.single (.confirms c x shown)).tail
    (.records _ (placesNeeded_le_freePlaces room) fun _ => trivial)

theorem confirmPress_changes {s₀ : State} (c : Channel) (s : State) : Changes s₀ s (confirmPress c s) := by
  unfold confirmPress
  split
  · exact .refl
  · split
    · exact offer_changes s fun _ => trivial
    · split
      · exact offer_changes s fun _ => trivial
      · split
        · exact onDisp_changes c (.inl ⟨rfl, rfl⟩)
        · exact takeConfirm_changes ‹_› (by simpa using ‹¬ (!s.essentialRoom) = true›)

theorem reading_changes {s₀ : State} (c : Channel) (confirm adjust : KeyLevel) (s : State) :
    Changes s₀ s (reading c confirm adjust s) := by
  unfold reading
  extract_lets b read adjusted
  have cRead : Changes s₀ s read := .single (.visits c _ (fun _ => rfl) (.inl le_rfl))
  have cAdjusted : Changes s₀ s adjusted := by
    unfold adjusted
    split
    · exact cRead.trans (adjustPress_changes c read)
    · exact cRead
  split
  · exact cAdjusted.trans (confirmPress_changes c adjusted)
  · exact cAdjusted

theorem execPollAnswered_changes {a : List Byte} {s t : State} (h : execPollAnswered a s = .next t) :
    Changes s s t := by
  unfold execPollAnswered at h
  split at h
  · rename_i c _
    split at h <;> cases h
    · exact ((endVisit_changes s).trans (answered_changes c _)).trans (reading_changes ..)
    · exact (endVisit_changes s).trans (miss_changes c _)
  · cases h

theorem execPollSilent_changes {s t : State} (h : execPollSilent s = .next t) : Changes s s t := by
  unfold execPollSilent at h
  split at h <;> cases h
  exact (endVisit_changes s).trans (miss_changes ..)

theorem showFails_changes (c : Channel) (s : State) : Changes s s (showFails c s) :=
  ((endExchange_changes s).trans (onDisp_changes c (.inl ⟨rfl, rfl⟩))).trans (miss_changes ..)

theorem execShowAcknowledged_changes {a : List Byte} {s t : State}
    (h : execShowAcknowledged a s = .next t) : Changes s s t := by
  unfold execShowAcknowledged at h
  split at h
  · rename_i c _ _
    split at h <;> cases h
    · exact ((endExchange_changes s).trans (onDisp_changes c (.inl ⟨rfl, rfl⟩))).trans (answered_changes ..)
    · exact showFails_changes c s
  · cases h

theorem execShowSilent_changes {s t : State} (h : execShowSilent s = .next t) : Changes s s t := by
  unfold execShowSilent at h
  split at h <;> cases h
  exact showFails_changes ..

/-- A revive that succeeds, on a channel whose bus record stands as the command found it (R148). -/
theorem revived_changes {s₀ s : State} {c : Channel} {k : Caps} (stands : s.bus[c] = s₀.bus[c])
    (asked : s₀.exchange = some (.describe c)) : Changes s₀ s (revived c k s) := by
  unfold revived
  extract_lets present settled
  have cPresent : Changes s₀ s present := .single (.describes c k _ stands (.inl asked))
  have cSettled : Changes s₀ s settled := cPresent.trans (onDisp_changes c (.started rfl rfl))
  exact cSettled.trans (offer_changes _ fun _ => trivial)

theorem execDescribeAnswered_changes {a : List Byte} {s t : State}
    (h : execDescribeAnswered a s = .next t) : Changes s s t := by
  unfold execDescribeAnswered at h
  split at h
  · rename_i c asked
    split at h <;> cases h
    · exact (endVisit_changes s).trans (revived_changes rfl asked)
    · exact (endVisit_changes s).trans (miss_changes ..)
  · cases h

theorem execDescribeSilent_changes {s t : State} (h : execDescribeSilent s = .next t) : Changes s s t := by
  unfold execDescribeSilent at h
  split at h <;> cases h
  exact (endVisit_changes s).trans (miss_changes ..)

theorem inventoryMoves_changes {s₀ : State} (c : Channel) (s : State) : Changes s₀ s (inventoryMoves c s) := by
  unfold inventoryMoves
  split
  · exact .single (.inventories .running 0 0)
  · exact .single (.inventories s.ctrl s.cursor (c + 1))

theorem inventoryFails_changes (c : Channel) (s : State) : Changes s s (inventoryFails c s) := by
  have missed := (endVisit_changes (s₀ := s) s).trans (miss_changes c _)
  unfold inventoryFails
  split
  · exact missed
  · exact missed.trans (inventoryMoves_changes ..)

theorem execInventoryAnswered_changes {a : List Byte} {s t : State}
    (h : execInventoryAnswered a s = .next t) : Changes s s t := by
  unfold execInventoryAnswered at h
  split at h
  · rename_i c asked
    split at h <;> cases h
    · have ended : Changes s s (endVisit s) := endVisit_changes s
      exact (ended.tail (.describes c _ none rfl (.inr asked))).trans (inventoryMoves_changes ..)
    · exact inventoryFails_changes c s
  · cases h

theorem execInventorySilent_changes {s t : State} (h : execInventorySilent s = .next t) : Changes s s t := by
  unfold execInventorySilent at h
  split at h <;> cases h
  exact inventoryFails_changes ..

/-! ### Every command -/

/-- Every command is a chain of elementary changes, but for the resets, TIME_ADVANCE and REPORT_FRAME_SENT. -/
theorem exec_changes {c : Instr} {s t : State} (h : exec c s = .next t)
    (noReset : ∀ p g, c ≠ .powerOnReset p g) (noBreak : ∀ p g, c = .lineBreak p g → s.breakWait = true)
    (noAdvance : c ≠ .timeAdvance) (noSent : c ≠ .reportFrameSent) : Changes s s t := by
  cases c with
  | powerOnReset p g => exact absurd rfl (noReset p g)
  | lineBreak p g => exact execLineBreak_waiting (noBreak p g rfl) h
  | breakRelayEnd => exact execBreakRelayEnd_changes h
  | terminalStatusChange => exact execTerminalStatusChange_changes h
  | frameEarlyDiscard => exact execFrameEarlyDiscard_changes h
  | discardedFrame => exact execDiscardedFrame_changes h
  | unknownKindFrame => exact execUnknownKindFrame_changes h
  | upiSpacing => cases h; exact .refl
  | post =>
    cases h; exact receiveDown_changes fun buf => claimFrame_changes buf fun i c _ => actPost_changes _ i c s
  | run => cases h; exact receiveDown_changes fun buf => claimFrame_changes buf (actRun_changes _ · · s ·)
  | amend =>
    cases h; exact receiveDown_changes fun buf => claimFrame_changes buf fun i c _ => actAmend_changes _ i c s
  | withdraw =>
    cases h; exact receiveDown_changes fun buf => claimFrame_changes buf fun i c _ => actWithdraw_changes _ i c s
  | release =>
    cases h; exact receiveDown_changes fun buf => claimFrame_changes buf fun i c _ => actRelease_changes _ i c s
  | enumerate => cases h; exact receiveDown_changes dispatchEnumerate_changes
  | setup => cases h; exact managementFrame_changes (actSetup_keeps · s)
  | lanes => cases h; exact managementFrame_changes (actLanes_keeps · s)
  | ranges => cases h; exact managementFrame_changes (actRanges_keeps · s)
  | lock => cases h; exact managementFrame_changes (actLock_keeps · s)
  | purge => cases h; exact managementFrame_changes (actPurge_keeps · s)
  | sweep => cases h; exact managementFrame_changes (actSweep_keeps · s)
  | hold => cases h; exact managementFrame_changes (actHold_keeps · s)
  | resume => cases h; exact managementFrame_changes (actResume_keeps · s)
  | revive => cases h; exact managementFrame_changes (actRevive_keeps · s)
  | test => cases h; exact managementFrame_changes (actTest_keeps · s)
  | askStatus => cases h; exact managementFrame_changes (actAskStatus_keeps · s)
  | askSlot => cases h; exact managementFrame_changes (actAskSlot_keeps · s)
  | askTask => cases h; exact managementFrame_changes (actAskTask_keeps · s)
  | upFrameAccepted => exact execUpFrameAccepted_changes h
  | downRelayStart => exact execDownRelayStart_changes h
  | downRelayComplete => exact execDownRelayComplete_changes h
  | upMergeGrant => exact execUpMergeGrant_changes h
  | reportFrameSent => exact absurd rfl noSent
  | upRelayComplete => exact execUpRelayComplete_changes h
  | timeAdvance => exact absurd rfl noAdvance
  | deadlineExpiry => exact execDeadlineExpiry_changes h
  | doneHoldExpiry => exact execDoneHoldExpiry_changes h
  | waitBlinkExpiry => exact execWaitBlinkExpiry_changes h
  | probationExpiry => exact execProbationExpiry_changes h
  | lampTestExpiry => exact execLampTestExpiry_changes h
  | guardAssertion => exact execGuardAssertion_changes h
  | guardRelease => exact execGuardRelease_changes h
  | guardReleaseTimerExpiry => exact execGuardReleaseTimerExpiry_changes h
  | visit => exact execVisit_changes h
  | showStart => exact execShowStart_changes h
  | pollAnswered => exact execPollAnswered_changes h
  | pollSilent => exact execPollSilent_changes h
  | showAcknowledged => exact execShowAcknowledged_changes h
  | showSilent => exact execShowSilent_changes h
  | describeAnswered => exact execDescribeAnswered_changes h
  | describeSilent => exact execDescribeSilent_changes h
  | inventoryAnswered => exact execInventoryAnswered_changes h
  | inventorySilent => exact execInventorySilent_changes h

/-- Everything a command can do to a state. -/
inductive Effect (s : State) : Instr → State → Prop where
  | changes {c : Instr} {t : State} (noAdvance : c ≠ .timeAdvance) (noPower : ¬ ∃ p g, PowersOn p g c s)
      (chain : Changes s s t) : Effect s c t
  | advances {u : State} (chain : Changes s s u) : Effect s .timeAdvance (tick u)
  | powersOn {c : Instr} (p g : Bool) (powers : PowersOn p g c s) (line : DnoLine) (wait : Bool)
      (quiet : ∀ f, line ≠ .sending f) : Effect s c { powerOn p g s with dno := line, breakWait := wait }
  | stringResets (p g : Bool) (running : s.ctrl = .running) :
      Effect s (.lineBreak p g) { stringReset p g s with dno := .spacing, breakWait := true }
  | sends : Effect s .reportFrameSent { s with upo := none, queue := s.queue.drop 1 }

/-- A break detected: a string reset while RUNNING, a power-on reset while STARTING (R8, R9). -/
theorem execLineBreak_effect {p g : Bool} {s t : State} (ready : s.breakWait = false)
    (h : execLineBreak p g s = .next t) : Effect s (.lineBreak p g) t := by
  unfold execLineBreak at h
  rw [if_neg (by simp [ready])] at h
  cases h
  cases mode : s.ctrl with
  | running => exact .stringResets p g mode
  | starting => exact .powersOn p g (.inr ⟨rfl, mode, ready⟩) .spacing true nofun

theorem execReportFrameSent_effect {s t : State} (h : execReportFrameSent s = .next t) :
    Effect s .reportFrameSent t := by
  unfold execReportFrameSent at h
  split at h
  · split at h <;> cases h
    exact .sends
  · cases h

/-- A command that answers a next state has one of these effects. -/
theorem exec_effect {c : Instr} {s t : State} (h : exec c s = .next t) : Effect s c t := by
  by_cases power : ∃ p g, c = .powerOnReset p g
  · obtain ⟨p, g, rfl⟩ := power
    cases h
    exact .powersOn p g (.inl rfl) .idle false nofun
  by_cases breaks : ∃ p g, c = .lineBreak p g ∧ s.breakWait = false
  · obtain ⟨p, g, rfl, ready⟩ := breaks
    exact execLineBreak_effect ready h
  by_cases advance : c = .timeAdvance
  · subst advance
    cases h
    exact .advances (flushExpiries_changes s)
  by_cases sent : c = .reportFrameSent
  · subst sent
    exact execReportFrameSent_effect h
  refine .changes advance ?_ (exec_changes h (fun p g e => power ⟨p, g, e⟩) (fun p g e => ?_) advance sent)
  · rintro ⟨p, g, e | ⟨e, _, ready⟩⟩
    · exact power ⟨p, g, e⟩
    · exact breaks ⟨p, g, e, ready⟩
  · cases ready : s.breakWait with
    | true => rfl
    | false => exact absurd ⟨p, g, e, ready⟩ breaks

/-- A step idles, or has the effect of its front command on the state with the rest of the queue. -/
theorem step_effect {s t : State} (h : step s = .next t) :
    t = s ∨ ∃ c rest, Effect { s with pending := rest } c t := by
  unfold step at h
  split at h
  · cases h
    exact .inl rfl
  · exact .inr ⟨_, _, exec_effect h⟩

end Sys2Proof.Machine
end

section
/-! PROOFS. What every command keeps: the queue of commands and controller time (O2), the tiers of the report
queue (O4), the room of every store and the settle ends (O56). -/

namespace Sys2Proof.Machine

/-! ### Waiting commands and controller time (R48) -/

/-- No elementary change touches the waiting commands or controller time. -/
theorem Change.pending_time {s₀ s t : State} (h : Change s₀ s t) : t.pending = s.pending ∧ t.time = s.time := by
  cases h <;> exact ⟨rfl, rfl⟩

theorem Changes.pending_time {s₀ s t : State} (h : Changes s₀ s t) : t.pending = s.pending ∧ t.time = s.time :=
  h.keeps (P := fun u => u.pending = s.pending ∧ u.time = s.time)
    (fun _ _ change ⟨hp, ht⟩ => ⟨change.pending_time.1.trans hp, change.pending_time.2.trans ht⟩) ⟨rfl, rfl⟩

/-- Settles O2, by the effects a command can have. -/
theorem queueStandsAndTimeMovesByAdvance : Obligations.QueueStandsAndTimeMovesByAdvance := by
  intro c s t h
  cases exec_effect h with
  | changes noAdvance noPower chain =>
    obtain ⟨pending, time⟩ := chain.pending_time
    exact ⟨pending, .inr (.inr ⟨noAdvance, noPower, time⟩)⟩
  | advances chain =>
    obtain ⟨pending, time⟩ := chain.pending_time
    exact ⟨pending, .inl ⟨rfl, congrArg (· + 1) time⟩⟩
  | powersOn p g powers => exact ⟨rfl, .inr (.inl ⟨⟨p, g, powers⟩, rfl⟩)⟩
  | stringResets p g running =>
    refine ⟨rfl, .inr (.inr ⟨nofun, ?_, rfl⟩)⟩
    rintro ⟨p', g', e | ⟨_, starting, _⟩⟩
    · cases e
    · rw [running] at starting
      cases starting
  | sends => exact ⟨rfl, .inr (.inr ⟨nofun, by simp [PowersOn], rfl⟩)⟩

/-! ### The report queue (R172, R174) -/

/-- Records joined the queue at its end, each of which found the free places of its tier. -/
def QueueGrows (s t : State) : Prop :=
  ∃ added : List Report, t.queue = s.queue ++ added ∧
    ∀ (n : Nat) (r : Report), added[n]? = some r → s.queue.length + n + placesNeeded r.body ≤ 32

/-- An elementary change leaves the report queue, or takes in one record that finds room (R174). -/
theorem Change.queue_cases {s₀ s t : State} (h : Change s₀ s t) :
    t.queue = s.queue ∨ ∃ r : Report, t.queue = s.queue ++ [r] ∧ placesNeeded r.body ≤ s.freePlaces ∧
      ((∀ c : Channel, s₀.slots[c].length ≤ 8) → bodyFits r.body) := by
  cases h with
  | records b room fits => exact .inr ⟨_, rfl, room, fits⟩
  | _ => exact .inl rfl

/-- Every record needs at least one free place. -/
theorem placesNeeded_pos (b : ReportBody) : 1 ≤ placesNeeded b := by cases b <;> simp [placesNeeded]

/-- A record that finds the free places it needs still fits the queue. -/
theorem length_add_placesNeeded_le {b : ReportBody} {s : State} (room : placesNeeded b ≤ s.freePlaces) :
    s.queue.length + placesNeeded b ≤ 32 := by
  have pos := placesNeeded_pos b
  have room : placesNeeded b ≤ 32 - s.queue.length := room
  omega

theorem Changes.queueGrows {s₀ s t : State} (h : Changes s₀ s t) : QueueGrows s t := by
  refine h.keeps ?_ ⟨[], by simp, by simp⟩
  rintro u v change ⟨added, grown, found⟩
  rcases change.queue_cases with same | ⟨r, taken, room, _⟩
  · exact ⟨added, same.trans grown, found⟩
  · refine ⟨added ++ [r], by rw [taken, grown, List.append_assoc], fun n x hx => ?_⟩
    rw [List.getElem?_append] at hx
    split at hx
    · exact found n x hx
    · have last : n = added.length ∧ x = r := by
        rw [List.getElem?_singleton] at hx
        split at hx
        · exact ⟨by omega, (Option.some.inj hx).symm⟩
        · cases hx
      obtain ⟨rfl, rfl⟩ := last
      have fits := length_add_placesNeeded_le room
      rw [grown, List.length_append] at fits
      exact fits

/-- Settles O4: what a command takes in found its tier's room, and only a report sent or a reset removes. -/
theorem admissionKeepsTheTiers : Obligations.AdmissionKeepsTheTiers := by
  intro c s t h
  have tiers : QueueGrows s t ∨ (c = .reportFrameSent ∧ t.queue = s.queue.drop 1) ∨
      ((∃ p g, c = .powerOnReset p g ∨ c = .lineBreak p g) ∧ t.queue = []) := by
    cases exec_effect h with
    | changes _ _ chain => exact .inl chain.queueGrows
    | advances chain => exact .inl chain.queueGrows
    | powersOn p g powers => exact .inr (.inr ⟨⟨p, g, powers.imp_right And.left⟩, rfl⟩)
    | stringResets p g => exact .inr (.inr ⟨⟨p, g, .inr rfl⟩, rfl⟩)
    | sends => exact .inr (.inl ⟨rfl, rfl⟩)
  refine tiers.imp_left ?_
  rintro ⟨added, grown, found⟩
  refine ⟨added, grown, fun n r hr => ?_⟩
  have room := found n r hr
  cases e : r.body <;> rw [e] at room <;> exact room

/-! ### Room of every store (R5, R6, R16, R56, R82, R141, R144, R172) -/

theorem RoomKept.misses_updTab {s : State} (q : RoomKept s) {c : Channel} {f : BusRec → BusRec}
    (h : (f s.bus[c]).misses ≤ 2) (e : Channel) : (updTab s.bus c f)[e].misses ≤ 2 := by
  by_cases same : c = e
  · subst same
    simpa using h
  · have other : (updTab s.bus c f)[e] = s.bus[e] := getElem_updTab_ne s.bus same f
    rw [other]
    exact q.misses e

/-- Pool and lists after an event that changes both, given what they are changed to. -/
theorem RoomKept.restand {s : State} (q : RoomKept s) {pool : List Task} {slots : Tab 64 (List Tag)}
    (hp : pool.length ≤ 128) (hs : ∀ c : Channel, slots[c].length ≤ 8) : RoomKept (restand pool slots s) :=
  ⟨q.downBuf, q.upBuf, q.queue, by simpa [promote] using hp, hs, q.misses, q.batch, q.counts⟩

theorem Change.roomKept {s₀ s t : State} (h : Change s₀ s t) (q : RoomKept s) : RoomKept t := by
  have removed (n : Nat) (l : List Frame) (h : l.length ≤ 4) : (l.drop n).length ≤ 4 :=
    (List.drop_sublist n l).length_le.trans h
  obtain ⟨downBuf, upBuf, queue, pool, slots, misses, batch, counts⟩ := id q
  obtain ⟨downCheck, downOverrun, upCheck, upOverrun⟩ := id counts
  cases h with
  | downCheck n top =>
    exact ⟨downBuf, upBuf, queue, pool, slots, misses, batch, top, downOverrun, upCheck, upOverrun⟩
  | downOverrun n top =>
    exact ⟨downBuf, upBuf, queue, pool, slots, misses, batch, downCheck, top, upCheck, upOverrun⟩
  | upCheck n top =>
    exact ⟨downBuf, upBuf, queue, pool, slots, misses, batch, downCheck, downOverrun, top, upOverrun⟩
  | upOverrun n top =>
    exact ⟨downBuf, upBuf, queue, pool, slots, misses, batch, downCheck, downOverrun, upCheck, top⟩
  | relays f quiet room => exact ⟨by simpa using room, upBuf, queue, pool, slots, misses, batch, counts⟩
  | receives f room => exact ⟨downBuf, by simpa using room, queue, pool, slots, misses, batch, counts⟩
  | becomesTerminal => exact ⟨Nat.zero_le 4, upBuf, queue, pool, slots, misses, batch, counts⟩
  | endsDown => exact ⟨removed 1 _ downBuf, upBuf, queue, pool, slots, misses, batch, counts⟩
  | endsUp => exact ⟨downBuf, removed 1 _ upBuf, queue, pool, slots, misses, batch, counts⟩
  | records b room =>
    have fits := length_add_placesNeeded_le room
    have pos := placesNeeded_pos b
    refine ⟨downBuf, upBuf, ?_, pool, slots, misses, batch, counts⟩
    rw [record_queue, List.length_append, List.length_singleton]
    omega
  | posts x poolRoom list =>
    refine q.restand (by simpa using poolRoom) fun c => ?_
    simp only [Fin.getElem_fin, getElem_updTab]
    split
    · rename_i same
      obtain rfl : x.channel = c := Fin.ext same
      rw [length_insertSlot]
      exact list
    · exact slots c
  | frees p =>
    refine q.restand ((List.length_filter_le ..).trans pool) fun c => ?_
    simp only [Fin.getElem_fin, getElem_mapTab]
    exact (List.length_filter_le ..).trans (slots c)
  | confirms c x =>
    refine q.restand (by simpa [editTask] using pool) fun e => ?_
    simp only [Fin.getElem_fin, getElem_updTab]
    split
    · exact (List.drop_sublist ..).length_le.trans (slots e)
    · exact slots e
  | edits tag f => exact ⟨downBuf, upBuf, queue, by simpa [editTask] using pool, slots, misses, batch, counts⟩
  | dropsDone keep =>
    exact ⟨downBuf, upBuf, queue, (List.length_filter_le ..).trans pool, slots, misses, batch, counts⟩
  | expires x =>
    exact ⟨downBuf, upBuf, queue, (List.length_map ..).trans_le pool, slots, misses, batch, counts⟩
  | exchanges x r k n h => exact ⟨downBuf, upBuf, queue, pool, slots, misses, h.elim (·.trans batch) id, counts⟩
  | visits c f presence h =>
    have top : (f s.bus[c]).misses ≤ 2 := h.elim (·.trans (misses c)) id
    exact ⟨downBuf, upBuf, queue, pool, slots, q.misses_updTab top, batch, counts⟩
  | describes c k p =>
    exact ⟨downBuf, upBuf, queue, pool, slots, q.misses_updTab (Nat.zero_le 2), batch, counts⟩
  | revives c => exact ⟨downBuf, upBuf, queue, pool, slots, q.misses_updTab (Nat.zero_le 2), batch, counts⟩
  | takesOut c isolated =>
    exact ⟨downBuf, upBuf, queue, pool, slots, q.misses_updTab (Nat.zero_le 2), batch, counts⟩
  | _ => exact ⟨downBuf, upBuf, queue, pool, slots, misses, batch, counts⟩

/-- An advance of controller time lengthens no store. -/
theorem RoomKept.tick {s : State} (q : RoomKept s) : RoomKept (tick s) :=
  ⟨q.downBuf, q.upBuf, q.queue, (List.length_map ..).trans_le q.pool, q.slots, q.misses, q.batch, q.counts⟩

/-- A power-on reset empties every store. -/
theorem roomKept_afterPowerOn (p g : Bool) : RoomKept (State.afterPowerOn p g) := by
  constructor <;> simp [State.afterPowerOn, BusRec.powerOn]

theorem Effect.roomKept {s t : State} {c : Instr} (h : Effect s c t) (q : RoomKept s) : RoomKept t := by
  cases h with
  | changes _ _ chain => exact chain.keeps (fun _ _ => Change.roomKept) q
  | advances chain => exact RoomKept.tick (chain.keeps (fun _ _ => Change.roomKept) q)
  | powersOn p g =>
    have r := roomKept_afterPowerOn p g
    exact ⟨r.downBuf, r.upBuf, r.queue, r.pool, r.slots, r.misses, r.batch, r.counts⟩
  | stringResets p g =>
    have r := roomKept_afterPowerOn p g
    refine ⟨r.downBuf, r.upBuf, r.queue, r.pool, r.slots, fun c => ?_, r.batch, r.counts⟩
    simp [stringReset, busAfterStringReset]
  | sends =>
    have queue : (s.queue.drop 1).length ≤ 32 := (List.drop_sublist ..).length_le.trans q.queue
    exact ⟨q.downBuf, q.upBuf, queue, q.pool, q.slots, q.misses, q.batch, q.counts⟩

/-! ### Parameters and settle ends (R49, R50, R180) -/

/-- A settle end that has not passed lies ahead of the time, at most 255 units. -/
def SettleAhead (t : Time) (d : DisplayRec) : Prop :=
  d.settlePassed = false → before t d.settleEnd = true ∧ (d.settleEnd - t).toNat ≤ 255

/-- What it takes for a time to be before an end time. -/
theorem before_iff (t e : Time) : before t e = true ↔ 1 ≤ (e - t).toNat ∧ (e - t).toNat ≤ 2147483648 := by
  simp [before]

/-- The distance to an end time up to 255 units ahead. -/
theorem toNat_ahead_sub (t : Time) {n : Nat} (h : n ≤ 255) : (ahead t n - t).toNat = n := by
  unfold ahead
  bv_omega

/-- A started window of at most 255 units ends ahead of time, at most 255 units (R50). -/
theorem SettleAhead.start {t : Time} {n : Nat} {d : DisplayRec} (units : n ≤ 255) (q : SettleAhead t d) :
    SettleAhead t (startSettle t n d) := by
  have distance := toNat_ahead_sub t units
  simp only [startSettle]
  split
  · intro runs
    exact ⟨by simpa using runs, distance.trans_le units⟩
  · rename_i running
    split
    · rename_i later
      intro _
      obtain ⟨ahead', near⟩ := q (by simpa using running)
      show before t (ahead t n) = true ∧ (ahead t n - t).toNat ≤ 255
      rw [before_iff] at later ahead' ⊢
      refine ⟨⟨?_, by omega⟩, by omega⟩
      bv_omega
    · exact q

theorem SettleAhead.of_settleFrom {s : State} {d d' : DisplayRec} (units : s.settleUnits ≤ 255)
    (q : SettleAhead s.time d) (h : SettleFrom s d d') : SettleAhead s.time d' := by
  unfold SettleAhead
  rcases h with ⟨he, hp⟩ | ⟨he, hp⟩
  · rw [he, hp]
    exact q
  · rw [he, hp]
    exact q.start units

/-- An advance that does not reach a settle end leaves it ahead (R50). -/
theorem SettleAhead.tick {t : Time} {d : DisplayRec} (q : SettleAhead t d) :
    SettleAhead (t + 1) (tickDisp (t + 1) d) := by
  intro runs
  have both : d.settlePassed = false ∧ before (t + 1) d.settleEnd = true := by simpa [tickDisp] using runs
  obtain ⟨runs', still⟩ := both
  obtain ⟨ahead', near⟩ := q runs'
  refine ⟨still, ?_⟩
  show (d.settleEnd - (t + 1)).toNat ≤ 255
  rw [before_iff] at ahead' still
  bv_omega

/-- The settle time of parameters that fit is at most 255 units (R49, R180). -/
theorem SetupFits.settleUnits_le {s : State} (h : SetupFits s) : s.settleUnits ≤ 255 := by
  have top : s.settleMs ≤ 2550 := h.settle.1
  show s.settleMs / 10 ≤ 255
  omega

/-- The values a SETUP takes are clamped (R180). -/
theorem setupOp_fits (p : List Byte) :
    ((setupOp p).settleMs ≤ 2550 ∧ (setupOp p).settleMs % 10 = 0) ∧
    (1 ≤ (setupOp p).doneHoldS ∧ (setupOp p).doneHoldS ≤ 255) ∧
    (10 ≤ (setupOp p).probationS ∧ (setupOp p).probationS ≤ 255) ∧ (setupOp p).guardSteps ≤ 100 := by
  have hd := (byteAt p 2).isLt
  have hp := (byteAt p 3).isLt
  simp only [setupOp]
  omega

/-- Parameters and settle ends together: the invariant of the settle windows. -/
def SettleSound (s : State) : Prop := SetupFits s ∧ SettleStands s

/-- Settle windows are sound where each channel's settle fields stand or start a window. -/
theorem SettleSound.of_settleFrom {s t : State} (q : SettleSound s) (fits : SetupFits t) (time : t.time = s.time)
    (h : ∀ c : Channel, SettleFrom s s.disp[c] t.disp[c]) : SettleSound t := by
  refine ⟨fits, fun c => ?_⟩
  rw [time]
  exact SettleAhead.of_settleFrom q.1.settleUnits_le (q.2 c) (h c)

theorem Change.settleSound {s₀ s t : State} (h : Change s₀ s t) (q : SettleSound s) : SettleSound t := by
  obtain ⟨fits, stands⟩ := id q
  obtain ⟨settle, doneHold, probation, guard⟩ := id fits
  cases h with
  | setup p =>
    obtain ⟨settle', doneHold', probation', guard'⟩ := setupOp_fits p
    exact ⟨⟨settle', doneHold', probation', guard'⟩, stands⟩
  | posts x => exact q.of_settleFrom ⟨settle, doneHold, probation, guard⟩ rfl (restand_settle _ _ s)
  | frees p => exact q.of_settleFrom ⟨settle, doneHold, probation, guard⟩ rfl (restand_settle _ _ s)
  | confirms c x => exact q.of_settleFrom ⟨settle, doneHold, probation, guard⟩ rfl (restand_settle _ _ s)
  | expires x =>
    exact q.of_settleFrom ⟨settle, doneHold, probation, guard⟩ rfl (updTab_settle (.inl ⟨rfl, rfl⟩))
  | takesOut c isolated =>
    exact q.of_settleFrom ⟨settle, doneHold, probation, guard⟩ rfl (updTab_settle (.inl ⟨rfl, rfl⟩))
  | shows d h => exact q.of_settleFrom ⟨settle, doneHold, probation, guard⟩ rfl h
  | holds h g l tm d x h => exact q.of_settleFrom ⟨settle, doneHold, probation, guard⟩ rfl h
  | _ => exact ⟨⟨settle, doneHold, probation, guard⟩, stands⟩

theorem SettleSound.tick {s : State} (q : SettleSound s) : SettleSound (tick s) := by
  obtain ⟨⟨settle, doneHold, probation, guard⟩, stands⟩ := q
  refine ⟨⟨settle, doneHold, probation, guard⟩, fun c => ?_⟩
  have ticked : (Machine.tick s).disp[c] = tickDisp (s.time + 1) s.disp[c] := getElem_mapTab ..
  rw [ticked]
  exact SettleAhead.tick (stands c)

/-- The parameters a reset leaves fit (R181). -/
theorem setupFits_afterPowerOn (p g : Bool) : SetupFits (State.afterPowerOn p g) where
  settle := (by decide : 300 ≤ 2550 ∧ 300 % 10 = 0)
  doneHold := (by decide : 1 ≤ 60 ∧ 60 ≤ 255)
  probation := (by decide : 10 ≤ 60 ∧ 60 ≤ 255)
  guard := (by decide : 20 ≤ 100)

theorem Effect.settleSound {s t : State} {c : Instr} (h : Effect s c t) (q : SettleSound s) : SettleSound t := by
  have reset (p g : Bool) : SetupFits (State.afterPowerOn p g) := setupFits_afterPowerOn p g
  cases h with
  | changes _ _ chain => exact chain.keeps (fun _ _ => Change.settleSound) q
  | advances chain => exact SettleSound.tick (chain.keeps (fun _ _ => Change.settleSound) q)
  | powersOn p g =>
    obtain ⟨settle, doneHold, probation, guard⟩ := reset p g
    refine ⟨⟨settle, doneHold, probation, guard⟩, fun c => ?_⟩
    simp [powerOn, State.afterPowerOn, DisplayRec.reset]
  | stringResets p g =>
    obtain ⟨settle, doneHold, probation, guard⟩ := reset p g
    refine ⟨⟨settle, doneHold, probation, guard⟩, fun c => ?_⟩
    simp [stringReset, DisplayRec.reset]
  | sends =>
    obtain ⟨⟨settle, doneHold, probation, guard⟩, stands⟩ := q
    exact ⟨⟨settle, doneHold, probation, guard⟩, stands⟩

/-- Settles O56, by the effects a command can have and the elementary changes they are made of. -/
theorem everyStepKeepsTheRoom : Obligations.EveryStepKeepsTheRoom := by
  refine ⟨fun s t q h => ?_, fun s t fits stands h => ?_⟩
  · rcases step_effect h with rfl | ⟨c, rest, effect⟩
    · exact q
    · exact effect.roomKept ⟨q.downBuf, q.upBuf, q.queue, q.pool, q.slots, q.misses, q.batch, q.counts⟩
  · rcases step_effect h with rfl | ⟨c, rest, effect⟩
    · exact ⟨fits, stands⟩
    · exact effect.settleSound ⟨⟨fits.settle, fits.doneHold, fits.probation, fits.guard⟩, stands⟩

end Sys2Proof.Machine
end

section
/-! PROOFS. The lines and the lamp test stay true to the rest of the state (O60): BEACON, DNO, UPO, GUARD, TEST. -/

namespace Sys2Proof.Machine

/-! ### Beacon (R168) -/

/-- Once looked at, the beacon is true. -/
theorem beaconTrue_evalBeacon (s : State) : BeaconTrue (evalBeacon s) := by
  unfold BeaconTrue
  rw [evalBeacon_beacon, Bool.and_eq_true, beaconCondition_iff]
  exact Iff.rfl

/-- The beacon stays true where its state, its enable and both parts of its condition stand. -/
theorem BeaconTrue.of_same {s t : State} (q : BeaconTrue s) (beacon : t.beacon = s.beacon)
    (enable : t.beaconEnable = s.beaconEnable)
    (late : (∃ x ∈ t.pool, x.state = .showing ∧ x.expired = true) ↔
      ∃ x ∈ s.pool, x.state = .showing ∧ x.expired = true)
    (lost : (∃ c : Channel, t.bus[c].presence = .faulted ∨ t.bus[c].presence = .isolated) ↔
      ∃ c : Channel, s.bus[c].presence = .faulted ∨ s.bus[c].presence = .isolated) : BeaconTrue t := by
  unfold BeaconTrue
  rw [beacon, enable, late, lost]
  exact q

/-- A map that keeps state and expiry keeps the late tasks. -/
theorem late_map {f : Task → Task} (keeps : ∀ x, (f x).state = x.state ∧ (f x).expired = x.expired)
    (pool : List Task) :
    (∃ x ∈ pool.map f, x.state = .showing ∧ x.expired = true) ↔
      ∃ x ∈ pool, x.state = .showing ∧ x.expired = true := by
  simp [keeps]

/-- Dropping DONE records keeps the late tasks. -/
theorem late_filter {keep : Task → Bool} {pool : List Task} (done : ∀ x ∈ pool, keep x = false → x.state = .done) :
    (∃ x ∈ pool.filter keep, x.state = .showing ∧ x.expired = true) ↔
      ∃ x ∈ pool, x.state = .showing ∧ x.expired = true := by
  constructor
  · rintro ⟨x, mem, late⟩
    exact ⟨x, List.mem_of_mem_filter mem, late⟩
  · rintro ⟨x, mem, showing, expired⟩
    refine ⟨x, List.mem_filter.mpr ⟨mem, ?_⟩, showing, expired⟩
    cases kept : keep x with
    | true => rfl
    | false =>
      rw [done x mem kept] at showing
      cases showing

/-- A bus table changed at one channel, whose presence counts for the beacon after as before. -/
theorem lost_updTab {bus : Tab 64 BusRec} {c : Channel} {f : BusRec → BusRec}
    (same : ((f bus[c]).presence = .faulted ∨ (f bus[c]).presence = .isolated) ↔
      (bus[c].presence = .faulted ∨ bus[c].presence = .isolated)) :
    (∃ e : Channel, (updTab bus c f)[e].presence = .faulted ∨ (updTab bus c f)[e].presence = .isolated) ↔
      ∃ e : Channel, bus[e].presence = .faulted ∨ bus[e].presence = .isolated := by
  refine exists_congr fun e => ?_
  by_cases at' : c = e
  · subst at'
    simpa using same
  · have other : (updTab bus c f)[e] = bus[e] := getElem_updTab_ne bus at' f
    rw [other]

/-- A channel that a DESCRIBE in flight asks is neither FAULTED nor ISOLATED (R140, R151). -/
theorem BusStand.asked_not_lost {s : State} (q : BusStand s) {c : Channel}
    (asked : s.exchange = some (.describe c) ∨ s.exchange = some (.inventory c)) :
    ¬ (s.bus[c].presence = .faulted ∨ s.bus[c].presence = .isolated) := by
  rcases asked with describing | inventoried
  · rw [(q.describing c describing).1]
    simp
  · obtain ⟨rfl, starting⟩ := q.inventoried c inventoried
    rw [q.starting starting s.inventory le_rfl]
    simp

theorem Change.beaconTrue {s₀ s t : State} (lists : ListsStand s₀) (bus : BusStand s₀) (h : Change s₀ s t)
    (q : BeaconTrue s) : BeaconTrue t := by
  cases h with
  | setup p => exact beaconTrue_evalBeacon _
  | posts x => exact beaconTrue_evalBeacon _
  | frees p => exact beaconTrue_evalBeacon _
  | confirms c x => exact beaconTrue_evalBeacon _
  | expires x => exact beaconTrue_evalBeacon _
  | revives c => exact beaconTrue_evalBeacon _
  | takesOut c isolated => exact beaconTrue_evalBeacon _
  | edits tag f keeps =>
    refine q.of_same rfl rfl (late_map (fun x => ?_) s.pool) .rfl
    split
    · exact (keeps x).2
    · exact ⟨rfl, rfl⟩
  | dropsDone keep done => exact q.of_same rfl rfl (late_filter (done lists.tags)) .rfl
  | visits c f presence => exact q.of_same rfl rfl .rfl (lost_updTab (by rw [presence]))
  | describes c k p stands asked =>
    refine q.of_same rfl rfl .rfl (lost_updTab ?_)
    have before := bus.asked_not_lost asked
    rw [← stands] at before
    exact iff_of_false (by simp [described]) before
  | _ => exact q

/-- An advance leaves state and expiry of every task. -/
theorem BeaconTrue.tick {s : State} (q : BeaconTrue s) : BeaconTrue (tick s) :=
  q.of_same rfl rfl (late_map (f := tickTask s) (fun _ => ⟨rfl, rfl⟩) s.pool) .rfl

/-! ### DNO and UPO (R2, R6, R16, R17, R18) -/

/-- A list that gains an element at its end keeps its first. -/
theorem head?_append_of_some {α : Type} {l : List α} {x : α} (h : l.head? = some x) (m : List α) :
    (l ++ m).head? = some x := by
  rw [List.head?_append, h]
  rfl

/-- DNO is not sending once a frame is abandoned. -/
theorem abandonDno_ne_sending (line : DnoLine) (f : Frame) : abandonDno line ≠ .sending f := by
  cases line <;> nofun

theorem Change.terminalQuiet {s₀ s t : State} (h : Change s₀ s t) (q : TerminalQuiet s) : TerminalQuiet t := by
  cases h with
  | relays f quiet => exact fun terminal => absurd (quiet.symm.trans terminal) nofun
  | becomesTerminal => exact fun _ => ⟨rfl, abandonDno_ne_sending s.dno⟩
  | leavesTerminal => exact nofun
  | endsBreak => exact fun terminal => ⟨(q terminal).1, nofun⟩
  | startsDown f quiet => exact fun terminal => absurd (quiet.symm.trans terminal) nofun
  | endsDown => exact fun terminal => ⟨by simp [(q terminal).1], nofun⟩
  | _ => exact q

/-- What the arbiter grants is the oldest frame or record of its source (R17). -/
theorem mergeGrant_some {s : State} {g : UpoSend} (h : mergeGrant s = some g) :
    (g.source = .queue ∧ ∃ r, s.queue.head? = some r ∧ g.frame = reportFrame r) ∨
    (g.source = .relay ∧ s.upBuf.head? = some g.frame) := by
  unfold mergeGrant at h
  split at h
  · cases h
  · rename_i queue _
    cases h
    exact .inl ⟨rfl, _, by rw [queue]; rfl, rfl⟩
  · rename_i buf
    cases h
    exact .inr ⟨rfl, by rw [buf]; rfl⟩
  · rename_i queue buf
    split at h <;> cases h
    · exact .inl ⟨rfl, _, by rw [queue]; rfl, rfl⟩
    · exact .inr ⟨rfl, by rw [buf]; rfl⟩

theorem Change.linesMatch {s₀ s t : State} (h : Change s₀ s t) (q : LinesMatch s) : LinesMatch t := by
  obtain ⟨down, relay, report⟩ := q
  cases h with
  | relays f => exact ⟨fun g on => head?_append_of_some (down g on) _, relay, report⟩
  | receives f => exact ⟨down, fun g on => head?_append_of_some (relay g on) _, report⟩
  | becomesTerminal => exact ⟨fun f on => absurd on (abandonDno_ne_sending s.dno f), relay, report⟩
  | endsBreak => exact ⟨nofun, relay, report⟩
  | startsDown f quiet first => exact ⟨fun g on => by cases on; exact first, relay, report⟩
  | endsDown => exact ⟨nofun, relay, report⟩
  | grants g granted =>
    refine ⟨down, fun f on => ?_, fun f on => ?_⟩ <;> cases on
    · rcases mergeGrant_some granted with ⟨source, _⟩ | ⟨_, first⟩
      · cases source
      · exact first
    · rcases mergeGrant_some granted with ⟨_, oldest⟩ | ⟨source, _⟩
      · exact oldest
      · cases source
  | endsUp => exact ⟨down, nofun, nofun⟩
  | records b =>
    refine ⟨down, relay, fun f on => ?_⟩
    obtain ⟨r, first, frame⟩ := report f on
    exact ⟨r, head?_append_of_some first _, frame⟩
  | _ => exact ⟨down, relay, report⟩

/-! ### GUARD and the lamp test (R160 to R165) -/

theorem Change.guardStands {s₀ s t : State} (h : Change s₀ s t) (q : GuardStands s) : GuardStands t := by
  cases h with
  | holds h g l tm d x settle same ends guarded => exact guarded q
  | _ => exact q

/-- The hold set is not empty. -/
theorem held_iff (s : State) : s.held = true ↔ s.head = true ∨ s.guard = true := by simp [State.held]

/-- A bus table changed at one channel that is PRESENT after where it was before keeps PRESENT channels. -/
theorem present_updTab {bus : Tab 64 BusRec} {c : Channel} {f : BusRec → BusRec}
    (keeps : bus[c].presence = .present → (f bus[c]).presence = .present) {e : Channel}
    (h : bus[e].presence = .present) : (updTab bus c f)[e].presence = .present := by
  by_cases at' : c = e
  · subst at'
    simpa using keeps h
  · have other : (updTab bus c f)[e] = bus[e] := getElem_updTab_ne bus at' f
    rw [other]
    exact h

theorem Change.testStands {s₀ s t : State} (h : Change s₀ s t) (q : TestStands s) : TestStands t := by
  obtain ⟨notHeld, present⟩ := q
  cases h with
  | visits c f presence =>
    exact ⟨notHeld, fun x on e mem => present_updTab (presence _).trans (present x on e mem)⟩
  | describes c k p => exact ⟨notHeld, fun x on e mem => present_updTab (fun _ => rfl) (present x on e mem)⟩
  | revives c lost =>
    exact ⟨notHeld, fun x on e mem => present_updTab (fun was => absurd was lost) (present x on e mem)⟩
  | takesOut c isolated =>
    refine ⟨fun held => congrArg (Option.map _) (notHeld held), fun x on e mem => ?_⟩
    obtain ⟨y, was, rfl⟩ := Option.map_eq_some_iff.mp on
    obtain ⟨listed, other⟩ := List.mem_filter.mp mem
    have other : c ≠ e := fun at' => by simp [at'] at other
    show (updTab s.bus c _)[e.val].presence = .present
    rw [getElem_updTab_ne s.bus other]
    exact present y was e listed
  | holds h g l tm d x settle same ends =>
    refine ⟨fun held => ?_, fun y on => ?_⟩
    · rcases ends (by simpa using held) with was | none'
      · exact same.elim (·.trans (notHeld ((held_iff s).mp was))) id
      · exact none'
    · rcases same with rfl | none'
      · exact present y on
      · exact absurd (none'.symm.trans on) nofun
  | tests x free set =>
    refine ⟨fun held => ?_, fun y on => ?_⟩
    · exact absurd (free.symm.trans ((held_iff s).mpr held)) nofun
    · cases on
      exact set
  | endsTest => exact ⟨fun _ => rfl, nofun⟩
  | _ => exact ⟨notHeld, present⟩

/-! ### All of them -/

/-- The lines and the lamp test agree with the rest of the state. -/
structure LinesTrue (s : State) : Prop where
  beacon : BeaconTrue s
  quiet : TerminalQuiet s
  lines : LinesMatch s
  guard : GuardStands s
  test : TestStands s

theorem Changes.linesTrue {s t : State} (lists : ListsStand s) (bus : BusStand s) (h : Changes s s t)
    (q : LinesTrue s) : LinesTrue t :=
  h.keeps (fun _ _ change ⟨beacon, quiet, lines, guard, test⟩ =>
    ⟨change.beaconTrue lists bus beacon, change.terminalQuiet quiet, change.linesMatch lines,
      change.guardStands guard, change.testStands test⟩) q

theorem LinesTrue.tick {s : State} (q : LinesTrue s) : LinesTrue (tick s) :=
  ⟨q.beacon.tick, q.quiet, ⟨q.lines.down, q.lines.relay, q.lines.report⟩, q.guard,
    ⟨q.test.notHeld, q.test.present⟩⟩

/-- Both resets turn the beacon off, empty the lines and the buffers, end the test and take GUARD from its line. -/
theorem linesTrue_of_reset {t : State} (guard : Bool) (beacon : t.beacon = false ∧ t.beaconEnable = false)
    (down : t.downBuf = [] ∧ ∀ f, t.dno ≠ .sending f) (up : t.upo = none)
    (held : t.guard = guard ∧ t.guardLine = guard ∧ t.guardTimer = none) (test : t.test = none) :
    LinesTrue t where
  beacon := by simp [BeaconTrue, beacon]
  quiet := fun _ => down
  lines := ⟨fun f on => absurd on (down.2 f), by simp [up], by simp [up]⟩
  guard := by simp [GuardStands, held]
  test := ⟨fun _ => test, by simp [test]⟩

theorem Effect.linesTrue {s t : State} {c : Instr} (h : Effect s c t) (lists : ListsStand s) (bus : BusStand s)
    (q : LinesTrue s) : LinesTrue t := by
  cases h with
  | changes _ _ chain => exact chain.linesTrue lists bus q
  | advances chain => exact (chain.linesTrue lists bus q).tick
  | powersOn p g powers line wait quiet =>
    exact linesTrue_of_reset g ⟨rfl, rfl⟩ ⟨rfl, quiet⟩ rfl ⟨rfl, rfl, rfl⟩ rfl
  | stringResets p g => exact linesTrue_of_reset g ⟨rfl, rfl⟩ ⟨rfl, nofun⟩ rfl ⟨rfl, rfl, rfl⟩ rfl
  | sends =>
    exact ⟨q.beacon, q.quiet, ⟨q.lines.down, nofun, nofun⟩, q.guard, ⟨q.test.notHeld, q.test.present⟩⟩

/-- Settles O60, by the effects a command can have and the elementary changes they are made of. -/
theorem everyStepKeepsTheLines : Obligations.EveryStepKeepsTheLines := by
  intro s t lists bus beacon quiet lines guard test h
  rcases step_effect h with rfl | ⟨c, rest, effect⟩
  · exact ⟨beacon, quiet, lines, guard, test⟩
  · have kept := effect.linesTrue
      ⟨lists.tags, lists.listed, lists.stands, lists.once, lists.first, lists.order⟩
      ⟨bus.absentEmpty, bus.notPresent, bus.present, bus.starting, bus.polled, bus.describing, bus.inventoried,
        bus.shown⟩
      ⟨beacon, quiet, ⟨lines.down, lines.relay, lines.report⟩, guard, ⟨test.notHeld, test.present⟩⟩
    exact ⟨kept.beacon, kept.quiet, kept.lines, kept.guard, kept.test⟩

end Sys2Proof.Machine
end

section
/-! PROOFS. The checks of R4 on either lane in words, the sizes of report payloads (R191), and O54: every report
record goes out as a frame that an up-lane receiver accepts. -/

namespace Sys2Proof.Machine

/-! ### The checks of R4 -/

/-- The check word covers the kind, the length, the flags, the segment and the payload (R186). -/
theorem checkAgrees_iff (f : Frame) :
    checkAgrees f = true ↔
      f.check = crc16 (f.kind :: BitVec.ofNat 8 f.payload.length :: f.flags :: f.segment :: f.payload) := by
  unfold checkAgrees
  rw [beq_iff_eq]
  rfl

/-- A check word computed afresh agrees (R7, R186). -/
theorem checkAgrees_rechecked (f : Frame) : checkAgrees (rechecked f) = true := by
  simp [checkAgrees, rechecked, coveredBytes]

/-- What it takes for a frame of any kind to pass the checks of the down lane. -/
theorem checkDown_eq_good_iff (f : Frame) :
    checkDown f = .good ↔ f.payload.length ≤ 88 ∧ checkAgrees f = true ∧
      ∀ k, kindOf f.kind = some k → sizeAgrees k f.payload.length = true := by
  unfold checkDown
  by_cases long : 88 < f.payload.length
  · simp [Config.maxPayload, long]
  · have short : f.payload.length ≤ 88 := Nat.le_of_not_lt long
    cases agrees : checkAgrees f with
    | false => simp
    | true =>
      cases kind : kindOf f.kind with
      | none => simp [Config.maxPayload, short]
      | some k => cases size : sizeAgrees k f.payload.length <;> simp [Config.maxPayload, short, long, size]

/-- What it takes for a frame to pass the checks of the up lane. -/
theorem checkUp_eq_good_iff (f : Frame) :
    checkUp f = .good ↔ f.payload.length ≤ 88 ∧ checkAgrees f = true ∧
      (f.kind = reportCode → reportSizeAgrees f.payload = true) := by
  unfold checkUp
  by_cases long : 88 < f.payload.length
  · simp [Config.maxPayload, long]
  · have short : f.payload.length ≤ 88 := Nat.le_of_not_lt long
    cases agrees : checkAgrees f with
    | false => simp
    | true =>
      by_cases kind : f.kind = reportCode
      · cases size : reportSizeAgrees f.payload <;> simp [Config.maxPayload, short, long, kind]
      · simp [Config.maxPayload, short, kind]

/-! ### Sizes of fields and bodies (R191) -/

@[simp] theorem length_wordBytes (w : Word16) : (wordBytes w).length = 2 := rfl
@[simp] theorem length_numBytes (n : Nat) : (numBytes n).length = 2 := rfl
@[simp] theorem length_tagBytes (t : Tag) : (tagBytes t).length = 2 := rfl
@[simp] theorem length_locationBytes (l : Location) : (locationBytes l).length = 3 := rfl

@[simp] theorem length_numOrFill (n : Option Nat) : (numOrFill n).length = 2 := by cases n <;> rfl
@[simp] theorem length_capsBytes (k : Option Caps) : (capsBytes k).length = 4 := by cases k <;> rfl
@[simp] theorem length_originBytes (o : Option RunOrigin) : (originBytes o).length = 3 := by cases o <;> rfl
@[simp] theorem length_digitsBytes (d : Digits) : (digitsBytes d).length = 3 := by cases d <;> rfl
@[simp] theorem length_contentBytes (c : Content) : (contentBytes c).length = 4 := by simp [contentBytes]

@[simp] theorem length_shownBytes (c : Option Content) : (shownBytes c).length = 4 := by
  cases c with
  | none => rfl
  | some c => exact length_contentBytes c

@[simp] theorem length_setupBytes (v : SetupValues) : (setupBytes v).length = 6 := rfl
@[simp] theorem length_statusBytes (v : StatusBody) : (statusBytes v).length = 21 := rfl

@[simp] theorem length_slotBytes (v : SlotBody) : (slotBytes v).length = 10 + 2 * v.tags.length := by
  have tags : (v.tags.flatMap tagBytes).length = 2 * v.tags.length := by
    rw [List.length_flatMap]
    simp [Nat.mul_comm]
  simp only [slotBytes, List.length_cons, List.length_append, length_capsBytes, length_shownBytes, tags]

@[simp] theorem length_taskBytes (t : Task) : (taskBytes t).length = 25 := by simp [taskBytes]

/-- The size of an ANSWER whose body is of its frame's kind stands in the table of R191. -/
theorem answerSizeAgrees_answerBytes {k : Kind} {r : Reason} {i : Option Byte} {b : AnswerBody}
    (fits : bodyFits (.answer k r i b)) :
    answerSizeAgrees (kindCode k) (6 + (answerBytes b).length) = true ∧ (answerBytes b).length ≤ 26 := by
  unfold answerSizeAgrees
  rw [kindOf_kindCode]
  cases b with
  | none => exact ⟨rfl, Nat.zero_le 26⟩
  | count n =>
    rcases (show k = .purge ∨ k = .sweep from fits) with rfl | rfl
    · exact ⟨rfl, by simp [answerBytes]⟩
    · exact ⟨rfl, by simp [answerBytes]⟩
  | lampTest seconds channels =>
    obtain rfl : k = .test := fits
    exact ⟨rfl, by simp [answerBytes]⟩
  | setup v =>
    obtain rfl : k = .setup := fits
    exact ⟨rfl, by simp [answerBytes]⟩
  | status v =>
    obtain rfl : k = .askStatus := fits
    exact ⟨rfl, by simp [answerBytes]⟩
  | slot v =>
    obtain ⟨rfl, tags⟩ : k = .askSlot ∧ v.tags.length ≤ 8 := fits
    simp only [answerBytes, length_slotBytes, Bool.or_eq_true, Bool.and_eq_true, decide_eq_true_eq, beq_iff_eq]
    omega
  | task t =>
    obtain rfl : k = .askTask := fits
    exact ⟨by simp [answerBytes], by simp [answerBytes]⟩

/-- A report payload is its kind code, its time stamp and its fields. -/
theorem length_reportPayload (r : Report) : (reportPayload r).length = 3 + (bodyBytes r.body).length := by
  simp [reportPayload]
  omega

/-- A payload that says ANSWER has the size of the frame kind it names. -/
theorem reportSizeAgrees_answer (rest : List Byte) :
    reportSizeAgrees (0x01 :: rest) = answerSizeAgrees (byteAt (0x01 :: rest) 3) (rest.length + 1) := by
  simp [reportSizeAgrees]

/-- The size of every record's payload stands in the table of R191. -/
theorem reportSizeAgrees_reportPayload {r : Report} (fits : bodyFits r.body) :
    reportSizeAgrees (reportPayload r) = true ∧ (reportPayload r).length ≤ 32 := by
  rw [length_reportPayload]
  unfold reportPayload
  cases body : r.body with
  | answer k reason i b =>
    rw [body] at fits
    obtain ⟨size, short⟩ := answerSizeAgrees_answerBytes fits
    have length : (bodyBytes (.answer k reason i b)).length = 3 + (answerBytes b).length := by
      simp [bodyBytes]
      omega
    refine ⟨?_, by omega⟩
    refine (reportSizeAgrees_answer _).trans ?_
    have total : (wordBytes r.stamp ++ bodyBytes (.answer k reason i b)).length + 1 =
        6 + (answerBytes b).length := by
      rw [List.length_append, length_wordBytes, length]
      omega
    exact total ▸ size
  | stalePress c task => cases task <;> exact ⟨rfl, by simp [bodyBytes]⟩
  | moduleFault c isolated tag => cases tag <;> exact ⟨rfl, by simp [bodyBytes, tagIfPresent]⟩
  | moduleBack c tag => cases tag <;> exact ⟨rfl, by simp [bodyBytes, tagIfPresent]⟩
  | _ => exact ⟨rfl, by simp [bodyBytes]⟩

/-- A record's frame passes the checks of an up-lane receiver (R4, R18, R186). -/
theorem checkUp_reportFrame {r : Report} (fits : bodyFits r.body) :
    checkUp (reportFrame r) = .good ∧ (reportFrame r).payload.length ≤ 32 := by
  obtain ⟨size, short⟩ := reportSizeAgrees_reportPayload fits
  refine ⟨(checkUp_eq_good_iff _).mpr ⟨?_, checkAgrees_rechecked _, fun _ => size⟩, short⟩
  exact short.trans (by decide)

/-! ### What the queue holds -/

/-- Every record of the queue has the shape its kind carries. -/
def QueueFits (s : State) : Prop := ∀ r ∈ s.queue, bodyFits r.body

theorem Changes.queueFits {s t : State} (lists : ∀ c : Channel, s.slots[c].length ≤ 8) (h : Changes s s t)
    (q : QueueFits s) : QueueFits t := by
  refine h.keeps (fun u v change fits => ?_) q
  unfold QueueFits
  rcases change.queue_cases with same | ⟨r, taken, _, fit⟩
  · rw [same]
    exact fits
  · rw [taken]
    exact List.forall_mem_append.mpr ⟨fits, List.forall_mem_singleton.mpr (fit lists)⟩

theorem Effect.queueFits {s t : State} {c : Instr} (h : Effect s c t)
    (lists : ∀ c : Channel, s.slots[c].length ≤ 8) (q : QueueFits s) : QueueFits t := by
  cases h with
  | changes _ _ chain => exact chain.queueFits lists q
  | advances chain =>
    have fits := chain.queueFits lists q
    exact fits
  | powersOn p g => exact fun _ mem => absurd mem List.not_mem_nil
  | stringResets p g => exact fun _ mem => absurd mem List.not_mem_nil
  | sends => exact fun r mem => q r (List.mem_of_mem_drop mem)

/-- Settles O54: the frames by the sizes of their bodies, the queue by the effects a command can have. -/
theorem reportFramesAreAcceptedUpstream : Obligations.ReportFramesAreAcceptedUpstream := by
  refine ⟨fun r fits => checkUp_reportFrame fits, fun s t lists fits h => ?_⟩
  rcases step_effect h with rfl | ⟨c, rest, effect⟩
  · exact fits
  · exact effect.queueFits lists fits

end Sys2Proof.Machine
end

section
/-! PROOFS. The resets: what they leave in every block (O7, O8), and that it is sound (O55). -/

namespace Sys2Proof.Machine

/-! ### What the tables of a reset read -/

theorem lanesReset_getElem (n : LaneNo) :
    lanesReset[n] =
      { enabled := false
        colour := ([.red, .green, .blue, .yellow, .cyan, .magenta, .white, .white] : List Colour).getD n.val .white
        cadence := if n.val = 7 then .slow else .steady } := by
  revert n
  decide

theorem powerOn_slots (p g : Bool) (s : State) (c : Channel) : (powerOn p g s).slots[c] = [] := by
  simp [powerOn, State.afterPowerOn]

theorem powerOn_ranges (p g : Bool) (s : State) (i : EntryNo) :
    (powerOn p g s).ranges[i] = RangeEntry.reset := by
  simp [powerOn, State.afterPowerOn]

theorem powerOn_disp (p g : Bool) (s : State) (c : Channel) :
    (powerOn p g s).disp[c] = DisplayRec.reset 0 := by
  simp [powerOn, State.afterPowerOn]

theorem powerOn_bus (p g : Bool) (s : State) (c : Channel) : (powerOn p g s).bus[c] = BusRec.powerOn := by
  simp [powerOn, State.afterPowerOn]

theorem stringReset_disp (p g : Bool) (s : State) (c : Channel) :
    (stringReset p g s).disp[c] = DisplayRec.reset s.time := by
  simp [stringReset]

theorem stringReset_bus (p g : Bool) (s : State) (c : Channel) :
    (stringReset p g s).bus[c] = busAfterStringReset s.bus[c] := by
  simp [stringReset]

/-! ### The values both resets leave -/

theorem resetValues_powerOn (p g : Bool) (s : State) : ResetValues p g (powerOn p g s) := by
  refine ⟨⟨rfl, rfl, rfl, rfl, rfl, rfl, rfl, rfl, rfl, rfl⟩, fun i => ?_, ⟨rfl, powerOn_slots p g s, ?_⟩,
    powerOn_disp p g s, ⟨rfl, rfl, rfl, rfl, rfl⟩, ⟨rfl, rfl, rfl, rfl, rfl, rfl, rfl, rfl⟩, rfl, rfl, rfl, rfl⟩
  · rw [powerOn_ranges]
    simp [RangeEntry.reset]
  · exact lanesReset_getElem

/-- A string reset leaves what a power-on reset leaves, at the present controller time (R48, R155). -/
theorem resetValues_stringReset (p g : Bool) (s : State) : ResetValues p g (stringReset p g s) := by
  obtain ⟨port, ranges, tasks, _, bus, hold, setup⟩ := resetValues_powerOn p g s
  exact ⟨port, ranges, tasks, stringReset_disp p g s, bus, hold, setup⟩

/-- The relay of a break, in progress or not, is none of the reset values. -/
theorem ResetValues.withBreak {p g : Bool} {t : State} (h : ResetValues p g t) (line : DnoLine) (wait : Bool) :
    ResetValues p g { t with dno := line, breakWait := wait } := h

/-- Settles O7. -/
theorem powerOnResetState : Obligations.PowerOnResetState := fun p g s =>
  ⟨powerOn p g s, rfl, resetValues_powerOn p g s, rfl, rfl, rfl, rfl, rfl, powerOn_bus p g s, rfl⟩

/-- A break that the detector takes makes a string reset of a RUNNING part. -/
theorem execLineBreak_running {p g : Bool} {s : State} (ready : s.breakWait = false)
    (running : s.ctrl = .running) :
    execLineBreak p g s = .next { stringReset p g s with dno := .spacing, breakWait := true } := by
  simp [execLineBreak, ready, running]

/-- A break that the detector takes makes a power-on reset of a STARTING part. -/
theorem execLineBreak_starting {p g : Bool} {s : State} (ready : s.breakWait = false)
    (starting : s.ctrl = .starting) :
    execLineBreak p g s = .next { powerOn p g s with dno := .spacing, breakWait := true } := by
  simp [execLineBreak, ready, starting]

/-- Settles O8, by the state of the break detector and of the controller. -/
theorem breakResetsAndIsRelayedOnce : Obligations.BreakResetsAndIsRelayedOnce := by
  refine fun p g s => ⟨fun ready => ⟨?_, ?_⟩, fun waits => ⟨?_, ?_⟩⟩
  · show execBreakRelayEnd s = _
    simp [execBreakRelayEnd, ready]
  · cases mode : s.ctrl with
    | running =>
      exact ⟨_, execLineBreak_running ready mode, (resetValues_stringReset p g s).withBreak _ _, rfl, rfl, mode,
        fun _ => ⟨rfl, stringReset_bus p g s⟩, nofun⟩
    | starting =>
      exact ⟨_, execLineBreak_starting ready mode, (resetValues_powerOn p g s).withBreak _ _, rfl, rfl, rfl,
        nofun, fun _ => ⟨rfl, rfl, powerOn_bus p g s⟩⟩
  · show execLineBreak p g s = _
    simp [execLineBreak, waits]
  · show execBreakRelayEnd s = _
    simp [execBreakRelayEnd, waits]

/-! ### A reset state is sound -/

theorem listsStand_powerOn (p g : Bool) (s : State) : ListsStand (powerOn p g s) where
  tags := List.nodup_nil
  listed := fun c tag mem => by rw [powerOn_slots] at mem; cases mem
  stands := nofun
  once := fun c => by rw [powerOn_slots]; exact List.nodup_nil
  first := nofun
  order := fun c => by rw [powerOn_slots]; exact .nil

theorem busStand_powerOn (p g : Bool) (s : State) : BusStand (powerOn p g s) where
  absentEmpty := fun c _ => powerOn_slots p g s c
  notPresent := fun c _ => by simp only [powerOn_bus, powerOn_disp]; exact ⟨rfl, rfl, rfl, rfl⟩
  present := fun c h => by rw [powerOn_bus] at h; cases h
  starting := fun _ c _ => by rw [powerOn_bus]; rfl
  polled := nofun
  describing := nofun
  inventoried := nofun
  shown := nofun

theorem rangesStand_powerOn (p g : Bool) (s : State) : RangesStand (powerOn p g s).ranges where
  fields := fun i => by rw [powerOn_ranges]; rfl
  geometry := fun i h => by rw [powerOn_ranges] at h; cases h
  disjoint := fun i j c _ h => by rw [powerOn_ranges] at h; cases h

theorem linesTrue_powerOn (p g : Bool) (s : State) : LinesTrue (powerOn p g s) :=
  linesTrue_of_reset g ⟨rfl, rfl⟩ ⟨rfl, nofun⟩ rfl ⟨rfl, rfl, rfl⟩ rfl

theorem settleStands_powerOn (p g : Bool) (s : State) : SettleStands (powerOn p g s) := by
  intro c runs
  rw [powerOn_disp] at runs
  cases runs

theorem sound_powerOn (p g : Bool) (s : State) : Sound (powerOn p g s) where
  room :=
    have kept := roomKept_afterPowerOn p g
    ⟨kept.downBuf, kept.upBuf, kept.queue, kept.pool, kept.slots, kept.misses, kept.batch, kept.counts⟩
  beacon := (linesTrue_powerOn p g s).beacon
  quiet := (linesTrue_powerOn p g s).quiet
  lines := (linesTrue_powerOn p g s).lines
  lists := listsStand_powerOn p g s
  records := nofun
  bus := busStand_powerOn p g s
  ranges := rangesStand_powerOn p g s
  owners := fun c h => absurd (powerOn_slots p g s c) h
  guard := (linesTrue_powerOn p g s).guard
  test := (linesTrue_powerOn p g s).test
  setup :=
    have fits := setupFits_afterPowerOn p g
    ⟨fits.settle, fits.doneHold, fits.probation, fits.guard⟩
  settle := settleStands_powerOn p g s

/-- Settles O55: State.reset is what a power-on reset makes of itself. -/
theorem resetIsSound : Obligations.ResetIsSound := by
  refine ⟨sound_powerOn true false State.reset, fun p g s t h => ?_⟩
  cases h
  exact sound_powerOn p g s

end Sys2Proof.Machine
end

section
/-! PROOFS. The string port: discarded, overrun and relayed frames (O10, O11, O12), terminal status (O9), DNO and
the up-lane merge (O13, O14), enumeration (O15). -/

namespace Sys2Proof.Machine

/-! ### The checks in the words of the statements -/

/-- A frame of a kind is good exactly when it passes the checks of the down lane. -/
theorem goodFrame_iff (k : Kind) (rx : RxFrame) : GoodFrame k rx ↔ checkDown (received k rx) = .good :=
  (checkDown_good_iff k rx).symm

/-- Sizes of ANSWER payloads, line by line of R191's table. -/
theorem answerSizeFits_iff (p : List Byte) :
    AnswerSizeFits p ↔ answerSizeAgrees (byteAt p 3) p.length = true := by
  have slot (n : Nat) : (∃ tags ≤ 8, n = 6 + 10 + 2 * tags) ↔ (16 ≤ n ∧ n ≤ 32) ∧ n % 2 = 0 :=
    ⟨by omega, fun h => ⟨(n - 16) / 2, by omega, by omega⟩⟩
  unfold AnswerSizeFits answerSizeAgrees
  cases kindOf (byteAt p 3) with
  | none => simp
  | some k => cases k <;> simp [slot]

/-- One line of a table of codes: the line of the code at hand, or the lines below it. -/
theorem iff_ite_code {k code : Byte} {here below : Bool} {P : Prop} (hit : k = code → (P ↔ here = true))
    (missed : k ≠ code → (P ↔ below = true)) : P ↔ (if k = code then here else below) = true := by
  split
  · exact hit ‹_›
  · exact missed ‹_›

/-- Sizes of report payloads, line by line of R191's table. -/
theorem reportSizeFits_iff (p : List Byte) : ReportSizeFits p ↔ reportSizeAgrees p = true := by
  cases p with
  | nil => simp [ReportSizeFits, reportSizeAgrees]
  | cons k rest =>
    have first : byteAt (k :: rest) 0 = k := rfl
    unfold ReportSizeFits reportSizeAgrees
    rw [first, answerSizeFits_iff]
    dsimp only
    generalize answerSizeAgrees (byteAt (k :: rest) 3) (k :: rest).length = answer
    generalize (k :: rest).length = n
    simp only [List.mem_cons, Prod.mk.injEq, List.not_mem_nil, or_false, ne_eq, reduceCtorEq, not_false_eq_true,
      true_and]
    refine iff_ite_code (fun at' => ?_) fun h01 => iff_ite_code (fun at' => ?_) fun h02 =>
      iff_ite_code (fun at' => ?_) fun h10 => iff_ite_code (fun at' => ?_) fun h11 =>
      iff_ite_code (fun at' => ?_) fun h12 => iff_ite_code (fun at' => ?_) fun h13 =>
      iff_ite_code (fun at' => ?_) fun h20 => iff_ite_code (fun at' => ?_) fun h21 =>
      iff_ite_code (fun at' => ?_) fun h22 => iff_ite_code (fun at' => ?_) fun h23 =>
      iff_ite_code (fun at' => ?_) fun h24 => iff_ite_code (fun at' => ?_) fun h25 => ?_
    case refine_13 =>
      simp only [h01, h02, h10, h11, h12, h13, h20, h21, h22, h23, h24, h25, false_and, or_self, Bool.false_eq_true]
    all_goals
      rw [at']
      simp

/-- A frame passes the checks of its lane exactly when the lane's receiver finds it good (R4). -/
theorem passesChecks_down_iff (f : Frame) : passesChecks .down f ↔ checkDown f = .good := by
  rw [checkDown_eq_good_iff, checkAgrees_iff]
  exact Iff.rfl

theorem passesChecks_up_iff (f : Frame) : passesChecks .up f ↔ checkUp f = .good := by
  rw [checkUp_eq_good_iff, checkAgrees_iff, ← reportSizeFits_iff]
  exact Iff.rfl

/-! ### Discarded frames -/

theorem countCheck_eq (lane : StringLane) (s : State) : countCheck lane s = checkErrorCounted lane s := by
  cases lane <;> rfl

theorem countOverrun_eq (lane : StringLane) (s : State) : countOverrun lane s = overrunCounted lane s := by
  cases lane <;> rfl

/-- A completed frame that fails the checks of its lane is a check error (R4). -/
theorem execDiscardedFrame_bad {lane : StringLane} {kind : Byte} {rx : RxFrame} {s : State}
    (heard : ¬ (lane = .up ∧ s.terminal = true)) (bad : ¬ passesChecks lane (frameOf kind rx)) :
    execDiscardedFrame lane kind rx s = .next (checkErrorCounted lane s) := by
  cases lane with
  | down =>
    rw [passesChecks_down_iff] at bad
    unfold execDiscardedFrame
    cases check : checkDown (frameOf kind rx) with
    | good => exact absurd check bad
    | badCheck => simp only [check, countCheck_eq]
    | malformed => simp only [check, countCheck_eq]
  | up =>
    rw [passesChecks_up_iff] at bad
    have heard : ¬ s.terminal = true := fun terminal => heard ⟨rfl, terminal⟩
    unfold execDiscardedFrame
    cases check : checkUp (frameOf kind rx) with
    | good => exact absurd check bad
    | badCheck => simp only [check, if_neg heard, countCheck_eq]
    | malformed => simp only [check, if_neg heard, countCheck_eq]

/-- A completed frame that passes the checks of its lane and finds the buffer full is an overrun (R4). -/
theorem execDiscardedFrame_full {lane : StringLane} {kind : Byte} {rx : RxFrame} {s : State}
    (heard : ¬ (lane = .up ∧ s.terminal = true)) (good : passesChecks lane (frameOf kind rx))
    (full : bufferFull lane s) : execDiscardedFrame lane kind rx s = .next (overrunCounted lane s) := by
  cases lane with
  | down =>
    have full : ¬ s.downBuf.length < Config.relayRoom := Nat.not_lt.mpr full
    rw [passesChecks_down_iff] at good
    simp only [execDiscardedFrame, good, if_neg full, countOverrun_eq]
  | up =>
    have heard : ¬ s.terminal = true := fun terminal => heard ⟨rfl, terminal⟩
    have full : ¬ s.upBuf.length < Config.relayRoom := Nat.not_lt.mpr full
    rw [passesChecks_up_iff] at good
    simp only [execDiscardedFrame, good, if_neg heard, if_neg full, countOverrun_eq]

/-- An early discard is a check error of its lane, but for spacing that lasts into a break (R3). -/
theorem execFrameEarlyDiscard_heard {lane : StringLane} {s : State} (heard : ¬ (lane = .up ∧ s.terminal = true))
    (cause : EarlyCause) :
    execFrameEarlyDiscard lane cause s =
      .next (if cause = .stopMissing false then s else checkErrorCounted lane s) := by
  have heard : (!(lane == .up && s.terminal)) = true := by
    cases lane with
    | down => rfl
    | up => simpa using heard
  unfold execFrameEarlyDiscard
  rw [heard, countCheck_eq, Bool.and_true]
  cases cause with
  | stopMissing marksInTime => cases marksInTime <;> simp [earlyCounted]
  | lengthOver => simp [earlyCounted]
  | markingGap => simp [earlyCounted]

/-- A terminal segment ignores UPI (R2). -/
theorem upi_ignored {s : State} (terminal : s.terminal = true) (cause : EarlyCause) (kind : Byte) (rx : RxFrame) :
    execFrameEarlyDiscard .up cause s = .next s ∧ execDiscardedFrame .up kind rx s = .next s ∧
      execUpFrameAccepted kind rx s = .next s := by
  simp [execFrameEarlyDiscard, execDiscardedFrame, execUpFrameAccepted, terminal]

/-- Settles O10. -/
theorem discardsAreCountedOrIgnored : Obligations.DiscardsAreCountedOrIgnored := fun _ _ =>
  ⟨rfl, upi_ignored, fun heard => ⟨execFrameEarlyDiscard_heard heard,
    fun _ _ => execDiscardedFrame_bad heard, fun _ _ => execDiscardedFrame_full heard⟩⟩

/-! ### Frames of a known kind -/

/-- A frame of any kind the part acts on goes through the checks of R4 before anything is done with it. -/
theorem exec_frameCommand (k : Kind) (rx : RxFrame) (s : State) :
    ∃ act, exec (frameCommand k rx) s = .next (receiveDown (received k rx) act s) := by
  cases k <;> exact ⟨_, rfl⟩

/-- Settles O11: the dispatch of any kind stands behind the same checks. -/
theorem badAndOverrunFramesAreNotActedOn : Obligations.BadAndOverrunFramesAreNotActedOn := by
  intro k rx s
  obtain ⟨act, received⟩ := exec_frameCommand k rx s
  rw [received, goodFrame_iff]
  refine ⟨fun bad => ?_, fun good full => ?_⟩
  · rw [receiveDown_checkError bad]
    rfl
  · rw [receiveDown_overrun good full]
    rfl

/-! ### Relayed frames -/

/-- A relay changes the down relay buffer alone (R6). -/
theorem relayDown_form (f : Frame) (s : State) :
    relayDown f s = { s with downBuf := (relayDown f s).downBuf } ∧ Relays f s (relayDown f s) := by
  refine ⟨?_, relayDown_downBuf f s⟩
  unfold relayDown
  split <;> rfl

/-- Settles O12. -/
theorem unknownAndUpFramesAreRelayedAsReceived : Obligations.UnknownAndUpFramesAreRelayedAsReceived := by
  refine fun kind rx s => ⟨fun unknown good room => ?_, fun good room heard => ?_⟩
  · rw [passesChecks_down_iff] at good
    refine ⟨relayDown (frameOf kind rx) s, ?_, relayDown_form _ s⟩
    show execUnknownKindFrame kind rx s = _
    rw [execUnknownKindFrame, if_neg (by simp [unknown]), receiveDown_accepted good room]
  · rw [passesChecks_up_iff] at good
    show execUpFrameAccepted kind rx s = _
    rcases receiveUp_cases (frameOf kind rx) s with ⟨bad, _⟩ | ⟨_, full, _⟩ | ⟨_, _, taken⟩
    · exact absurd good bad
    · omega
    · rw [execUpFrameAccepted, if_neg (by simp [heard]), taken]

/-! ### Terminal status and DNO -/

/-- Settles O9. -/
theorem terminalStatusChanges : Obligations.TerminalStatusChanges := by
  refine fun s => ⟨fun lower =>
    ⟨{ s with terminal := true, downBuf := [], dno := abandonDno s.dno }, ?_, rfl, ?_, ?_⟩, fun terminal => ?_, ?_⟩
  · show execTerminalStatusChange true s = _
    simp [execTerminalStatusChange, lower]
  · intro spacing
    show abandonDno s.dno = .spacing
    rw [spacing]
    rfl
  · intro other
    show abandonDno s.dno = .idle
    cases line : s.dno with
    | spacing => exact absurd line other
    | idle => rfl
    | sending f => rfl
  · show execTerminalStatusChange false s = _
    simp [execTerminalStatusChange, terminal]
  · show execTerminalStatusChange s.terminal s = _
    simp [execTerminalStatusChange]

/-- Settles O13. -/
theorem downRelaySendsTheOldestFrame : Obligations.DownRelaySendsTheOldestFrame := by
  refine fun rdy s => ⟨fun f rest buf quiet idle ready => ?_, fun stays => ?_, fun f sending => ?_⟩
  · show execDownRelayStart rdy s = _
    simp [execDownRelayStart, buf, quiet, idle, ready]
  · show execDownRelayStart rdy s = _
    unfold execDownRelayStart
    cases buf : s.downBuf with
    | nil => rfl
    | cons f rest =>
      have blocked : ¬ (!s.terminal && s.dno == .idle && rdy) = true := by
        simp only [Bool.and_eq_true, Bool.not_eq_true', beq_iff_eq]
        rintro ⟨⟨quiet, idle⟩, ready⟩
        simp [buf, quiet, idle, ready] at stays
      simp only [if_neg blocked]
  · show execDownRelayComplete s = _
    simp [execDownRelayComplete, sending]

/-! ### The up-lane merge -/

/-- With UPO idle and UPO_RDY asserted the arbiter's choice starts (R17). -/
theorem execUpMergeGrant_idle {s : State} (idle : s.upo = none) {g : UpoSend} (choice : mergeGrant s = some g) :
    execUpMergeGrant true s = .next (granted g.source g.frame s) := by
  simp [execUpMergeGrant, idle, choice, granted]

/-- With a frame on UPO nothing is granted (R16). -/
theorem execUpMergeGrant_busy {s : State} {g : UpoSend} (busy : s.upo = some g) (rdy : Bool) :
    execUpMergeGrant rdy s = .next { s with upoRdy := rdy } := by
  simp [execUpMergeGrant, busy]

/-- Settles O14, by what the two requesters offer and what is on UPO. -/
theorem mergeArbiterAlternates : Obligations.MergeArbiterAlternates := by
  refine fun s => ⟨fun idle => ⟨fun r rs f fs queue buf => ⟨fun last => ?_, fun last => ?_⟩, fun r rs queue buf => ?_,
    fun f fs queue buf => ?_, fun queue buf => ?_, ?_⟩, fun f rdy => ⟨fun busy => ⟨?_, ?_⟩, fun busy => ⟨?_, ?_⟩⟩⟩
  · exact execUpMergeGrant_idle idle (g := ⟨.queue, reportFrame r⟩) (by simp [mergeGrant, queue, buf, last])
  · exact execUpMergeGrant_idle idle (g := ⟨.relay, f⟩) (by simp [mergeGrant, queue, buf, last])
  · exact execUpMergeGrant_idle idle (g := ⟨.queue, reportFrame r⟩) (by simp [mergeGrant, queue, buf])
  · exact execUpMergeGrant_idle idle (g := ⟨.relay, f⟩) (by simp [mergeGrant, queue, buf])
  · show execUpMergeGrant true s = _
    simp [execUpMergeGrant, mergeGrant, idle, queue, buf]
  · show execUpMergeGrant false s = _
    simp [execUpMergeGrant]
  · show execReportFrameSent s = _
    simp [execReportFrameSent, busy]
  · exact execUpMergeGrant_busy busy rdy
  · show execUpRelayComplete s = _
    simp [execUpRelayComplete, busy]
  · exact execUpMergeGrant_busy busy rdy

/-! ### Enumeration (R14, R15) -/

/-- The number a segment takes. -/
theorem numberTaken_cases (n : Byte) :
    (1 ≤ n.toNat ∧ n.toNat ≤ 250 → (numberTaken n).toNat = n.toNat) ∧
      (¬ (1 ≤ n.toNat ∧ n.toNat ≤ 250) → numberTaken n = 0) :=
  ⟨fun valid => by rw [numberTaken, if_pos valid], fun other => by rw [numberTaken, if_neg other]⟩

/-- The number a segment relays. -/
theorem numberRelayed_eq (n : Byte) :
    numberRelayed n = if 1 ≤ n.toNat ∧ n.toNat ≤ 250 then BitVec.ofNat 8 (n.toNat + 1) else n := by
  unfold numberRelayed
  split
  · apply BitVec.eq_of_toNat_eq
    simp
  · rfl

/-- The highest number the pass can have given (R15). -/
theorem enumCount_numberRelayed (n : Byte) :
    enumCount (numberRelayed n) = if n.toNat = 0 then 0 else if n.toNat ≤ 250 then n.toNat else 250 := by
  have top := n.isLt
  rw [numberRelayed_eq]
  unfold enumCount
  by_cases valid : 1 ≤ n.toNat ∧ n.toNat ≤ 250
  · have relayed : (BitVec.ofNat 8 (n.toNat + 1)).toNat = n.toNat + 1 := by
      rw [BitVec.toNat_ofNat]
      omega
    rw [if_pos valid, relayed]
    split_ifs <;> omega
  · rw [if_neg valid]
    split_ifs <;> omega

/-- An ENUMERATE that is accepted is dispatched. -/
theorem exec_enumerate {rx : RxFrame} {s : State} (accepted : Accepted .enumerate rx s) :
    exec (.enumerate rx) s = .next (dispatchEnumerate (received .enumerate rx) s) :=
  congrArg Host.Outcome.next (receiveDown_accepted ((goodFrame_iff ..).mp accepted.1) accepted.2)

/-- Settles O15, by the terminal status and the room for the answer. -/
theorem enumerateRenumbers : Obligations.EnumerateRenumbers := by
  intro rx s accepted n
  have payload : (received .enumerate rx).payload = rx.payload := rfl
  refine ⟨fun acts => ⟨_, exec_enumerate accepted, ?_⟩, fun terminal full => ?_⟩
  · unfold dispatchEnumerate
    rw [payload]
    cases terminal : s.terminal with
    | false =>
      rw [if_neg (by simp), numberRelayed_eq]
      simp only [relayDown]
      exact ⟨rfl, (numberTaken_cases _).1, (numberTaken_cases _).2, fun _ => ⟨rfl, rfl⟩, nofun⟩
    | true =>
      have room : s.queue.length < 32 := Nat.lt_of_not_le fun full => acts ⟨terminal, full⟩
      rw [if_pos rfl, if_pos ((answerRoom_iff s).mpr room)]
      refine ⟨rfl, (numberTaken_cases _).1, (numberTaken_cases _).2, nofun, fun _ => ⟨rfl, ?_⟩⟩
      rw [record_queue, enumCount_numberRelayed, stamp_eq]
      rfl
  · have noRoom : ¬ s.answerRoom = true := by
      rw [answerRoom_iff]
      omega
    rw [exec_enumerate accepted]
    simp only [dispatchEnumerate, if_pos terminal, if_neg noRoom]

end Sys2Proof.Machine
end

section
/-! PROOFS. Management frames: not acted on (O16), and acted on by LOCK, REVIVE and ASK STATUS (O28, O31, O33). -/

namespace Sys2Proof.Machine

/-! ### Addressing and relaying (R10, R13) -/

/-- A management frame is broadcast or for this segment exactly when it is not for elsewhere. -/
theorem addressing_eq_elsewhere_iff (rx : RxFrame) (s : State) :
    addressing s rx.segment = .elsewhere ↔ ¬ Addressed rx s := by
  unfold addressing Addressed
  by_cases broadcast : rx.segment = 255
  · simp [broadcast]
  · rw [if_neg broadcast]
    split
    · rename_i here
      exact iff_of_false nofun (not_not.mpr (.inr here))
    · rename_i other
      exact iff_of_true rfl (not_or.mpr ⟨broadcast, other⟩)

/-- A frame of the command is relayed where it was broadcast, and else consumed. -/
def relayedIfBroadcast (k : Kind) (rx : RxFrame) (s : State) : State :=
  if rx.segment = 255 then relayDown (received k rx) s else s

/-- What is done to the down relay buffer with an addressed management frame. -/
theorem relayedIfBroadcast_form (k : Kind) (rx : RxFrame) (s : State) :
    ∃ d, relayedIfBroadcast k rx s = { s with downBuf := d } ∧
      (rx.segment = 255 → Relays (received k rx) s { s with downBuf := d }) ∧
      (rx.segment ≠ 255 → d = s.downBuf) := by
  unfold relayedIfBroadcast
  split
  · rename_i broadcast
    obtain ⟨same, relays⟩ := relayDown_form (received k rx) s
    exact ⟨_, same, fun _ => relays, absurd broadcast⟩
  · rename_i other
    exact ⟨s.downBuf, rfl, fun broadcast => absurd broadcast other, fun _ => rfl⟩

/-- An accepted management frame for elsewhere is relayed alone. -/
theorem managementFrame_elsewhere {k : Kind} {rx : RxFrame} {act : Frame → State → State × Answer} {s : State}
    (accepted : Accepted k rx s) (other : ¬ Addressed rx s) :
    managementFrame k rx act s = relayDown (received k rx) s := by
  show receiveDown (received k rx) (dispatchManagement k act) s = _
  rw [receiveDown_accepted ((goodFrame_iff k rx).mp accepted.1) accepted.2, dispatchManagement]
  have elsewhere : addressing s (received k rx).segment = .elsewhere :=
    (addressing_eq_elsewhere_iff rx s).mpr other
  rw [elsewhere]

/-- An accepted management frame for this segment is answered, and relayed where it was broadcast. -/
theorem managementFrame_addressed {k : Kind} {rx : RxFrame} {act : Frame → State → State × Answer} {s : State}
    (accepted : Accepted k rx s) (addressed : Addressed rx s) :
    managementFrame k rx act s = relayedIfBroadcast k rx (answerFrame k (act (received k rx)) s) := by
  show receiveDown (received k rx) (dispatchManagement k act) s = _
  rw [receiveDown_accepted ((goodFrame_iff k rx).mp accepted.1) accepted.2, dispatchManagement]
  have segment : (received k rx).segment = rx.segment := rfl
  rw [segment, relayedIfBroadcast]
  by_cases broadcast : rx.segment = 255
  · rw [if_pos broadcast, broadcast, addressing_broadcast]
  · obtain ⟨own, lo, hi⟩ := addressed.resolve_left broadcast
    rw [if_neg broadcast, addressing_here own lo hi]

/-! ### Frames that are not acted on -/

/-- The command of a management kind hands the frame to its owning block. -/
theorem exec_management {k : Kind} (rx : RxFrame) (s : State) (kind : isManagementKind k = true) :
    ∃ act, exec (frameCommand k rx) s = .next (managementFrame k rx act s) := by
  cases k <;> simp [isManagementKind, isTaskKind] at kind <;> exact ⟨_, rfl⟩

/-- Settles O16, by the addressing, the answer room and the controller state. -/
theorem managementFramesNotActedOn : Obligations.ManagementFramesNotActedOn := by
  intro k rx s kind accepted
  obtain ⟨act, run⟩ := exec_management rx s kind
  rw [run]
  refine ⟨fun other => ?_, fun addressed full => ?_, fun addressed room starting notStatus => ?_⟩
  · rw [managementFrame_elsewhere accepted other]
    exact ⟨_, rfl, relayDown_form _ s⟩
  · rw [managementFrame_addressed accepted addressed, answerFrame_full full]
    obtain ⟨d, e, relays, consumed⟩ := relayedIfBroadcast_form k rx s
    exact ⟨_, congrArg _ e, rfl, relays, consumed⟩
  · rw [managementFrame_addressed accepted addressed, answerFrame_starting room starting notStatus]
    obtain ⟨d, e, relays, consumed⟩ := relayedIfBroadcast_form k rx (record (.answer k .notReady none .none) s)
    refine ⟨_, congrArg _ e, rfl, ?_, relays, consumed⟩
    show (record _ s).queue = _
    rw [record_queue, stamp_eq]
    rfl

/-! ### Frames that are acted on -/

/-- What an ANSWER and its relay read of the state stands as it was. -/
structure AnswersFrom (s u : State) : Prop where
  queue : u.queue = s.queue
  downBuf : u.downBuf = s.downBuf
  terminal : u.terminal = s.terminal
  segNum : u.segNum = s.segNum
  time : u.time = s.time

/-- A management frame acted on: what its block left, one ANSWER, and a relay where it was broadcast. -/
theorem managementFrame_answers {k : Kind} {rx : RxFrame} {act : Frame → State → State × Answer} {s u : State}
    {a : Answer} (accepted : Accepted k rx s) (addressed : Addressed rx s) (room : s.queue.length < 32)
    (run : s.ctrl = .running ∨ k = .askStatus) (acts : act (received k rx) s = (u, a))
    (same : AnswersFrom s u) :
    ∃ q d, managementFrame k rx act s = { u with queue := q, downBuf := d } ∧
      Answers k rx a.reason a.failing a.body s { u with queue := q, downBuf := d } := by
  rw [managementFrame_addressed accepted addressed, answerFrame_actedOn room run, acts]
  obtain ⟨d, e, relays, consumed⟩ :=
    relayedIfBroadcast_form k rx (record (.answer k a.reason a.failing a.body) u)
  refine ⟨_, d, e, ?_, fun broadcast => ?_, fun other => (consumed other).trans same.downBuf⟩
  · show (record _ u).queue = _
    rw [record_queue, stamp_eq, same.queue, same.segNum, same.time]
    rfl
  · have relayed := relays broadcast
    simp only [Relays, record_terminal, record_downBuf, same.terminal, same.downBuf] at relayed
    exact relayed

/-- A management frame that its block refuses is answered with the reason, and changes nothing. -/
theorem answeredOnly_of_refuses {k : Kind} {rx : RxFrame} {act : Frame → State → State × Answer} {s : State}
    {r : Reason} {i : Option Byte} (actedOn : ActedOn k rx s)
    (run : exec (frameCommand k rx) s = .next (managementFrame k rx act s))
    (refuses : act (received k rx) s = (s, refuseWith r i)) : AnsweredOnly k rx r i .none s := by
  obtain ⟨accepted, addressed, room, running⟩ := actedOn
  obtain ⟨q, d, e, answers⟩ :=
    managementFrame_answers accepted addressed room (.inl running) refuses ⟨rfl, rfl, rfl, rfl, rfl⟩
  exact ⟨_, run.trans (congrArg _ e), rfl, answers⟩

/-! ### LOCK (R36) -/

/-- The first index above 15 is the one found. -/
theorem find?_eq_byteAt {p : List Byte} {bad : Byte → Bool} {k : Nat}
    (first : FirstFailing p.length (fun k => bad (byteAt p k) = true) k) : p.find? bad = some (byteAt p k) := by
  obtain ⟨inside, fails, before⟩ := first
  have reads {j : Nat} (h : j < p.length) : byteAt p j = p[j] := by simp [byteAt, h]
  refine List.find?_eq_some_iff_getElem.mpr ⟨fails, k, inside, (reads inside).symm, fun j earlier => ?_⟩
  have passes : ¬ bad (byteAt p j) = true := before j earlier
  rw [reads (earlier.trans inside)] at passes
  simpa using passes

/-- Settles O28. -/
theorem lockLocksTheNamedEntries : Obligations.LockLocksTheNamedEntries := by
  intro rx s actedOn
  refine ⟨fun k first => ?_, fun named => ?_⟩
  · have found : rx.payload.find? (fun b => decide (15 < b.toNat)) = some (byteAt rx.payload k) :=
      find?_eq_byteAt (by simpa using first)
    refine answeredOnly_of_refuses (act := actLock) actedOn rfl ?_
    have payload : (received .lock rx).payload = rx.payload := rfl
    rw [actLock, payload, found]
  · have none' : rx.payload.find? (fun b => decide (15 < b.toNat)) = none := by
      rw [List.find?_eq_none]
      intro b mem
      simpa using named b mem
    obtain ⟨accepted, addressed, room, running⟩ := actedOn
    obtain ⟨q, d, e, answers⟩ := managementFrame_answers (act := actLock) (a := okWith .none)
      (u := { s with ranges := mapTab s.ranges fun i e => { e with locked := e.locked || lockNames rx.payload i } })
      accepted addressed room (.inl running)
      (by rw [actLock, show (received .lock rx).payload = rx.payload from rfl, none']) ⟨rfl, rfl, rfl, rfl, rfl⟩
    refine ⟨_, congrArg Host.Outcome.next e, rfl, answers, fun i => ?_⟩
    have reads : (mapTab s.ranges fun i e => { e with locked := e.locked || lockNames rx.payload i })[i] =
        { s.ranges[i] with locked := s.ranges[i].locked || lockNames rx.payload i } := getElem_mapTab ..
    simp only [reads, true_and]
    simp [lockNames]

/-! ### REVIVE (R147) -/

/-- A table changed at one place. -/
theorem onlyAt_updTab {α : Type} (c : Channel) (f : α → α) (t : Tab 64 α) :
    OnlyAt c (f t[c]) t (updTab t c f) :=
  ⟨getElem_updTab_self t c f, fun _ other => getElem_updTab_ne t (Ne.symm other) f⟩

/-- What R147's table does with a channel of the segment. -/
theorem actRevive_channel {rx : RxFrame} {c : Channel} (hc : c.val = (byteAt rx.payload 0).toNat) (s : State) :
    actRevive (received .revive rx) s =
      match s.presenceOf c with
      | .present => (s, refuseWith .notFaulted none)
      | .reviving => (s, refuseWith .notFaulted none)
      | .isolated =>
        if (byteAt rx.payload 1 != 0) = true then (startRevive c s, okWith .none)
        else (s, refuseWith .isolatedNeedsForce none)
      | .faulted => (startRevive c s, okWith .none)
      | .absent => (startRevive c s, okWith .none) := by
  have inside : (byteAt rx.payload 0).toNat < 64 := hc ▸ c.isLt
  obtain rfl : c = ⟨(byteAt rx.payload 0).toNat, inside⟩ := Fin.ext hc
  unfold actRevive
  exact dif_pos inside

/-- Settles O31, by the channel's presence state. -/
theorem reviveStartsTheProbe : Obligations.ReviveStartsTheProbe := by
  intro rx s actedOn
  have refuses {r : Reason} {i : Option Byte} (h : actRevive (received .revive rx) s = (s, refuseWith r i)) :
      AnsweredOnly .revive rx r i .none s := answeredOnly_of_refuses actedOn rfl h
  refine ⟨fun above => refuses (dif_neg (Nat.not_lt.mpr above)), fun c hc => ?_⟩
  have table := actRevive_channel hc s
  have forced : (byteAt rx.payload 1 != 0) = true ↔ byteAt rx.payload 1 ≠ 0 := bne_iff_ne
  refine ⟨fun known => refuses ?_, fun isolated gently => refuses ?_, fun starts => ?_⟩
  · rcases known with p | p <;> rw [table, State.presenceOf, p]
  · rw [table, State.presenceOf, isolated]
    exact if_neg (forced.not.mpr gently)
  · have revives : actRevive (received .revive rx) s = (startRevive c s, okWith .none) := by
      rcases starts with p | p | ⟨p, force⟩ <;> rw [table, State.presenceOf, p]
      exact if_pos (forced.mpr force)
    obtain ⟨accepted, addressed, room, running⟩ := actedOn
    obtain ⟨q, d, e, answers⟩ :=
      managementFrame_answers accepted addressed room (.inl running) revives ⟨rfl, rfl, rfl, rfl, rfl⟩
    exact ⟨_, congrArg Host.Outcome.next e, rfl, onlyAt_updTab c _ s.bus, beaconTrue_evalBeacon _, answers⟩

/-! ### ASK STATUS (R182) -/

/-- Every record is in one of the three states. -/
theorem countP_states (pool : List Task) :
    pool.countP (·.state == .queued) + pool.countP (·.state == .showing) + pool.countP (·.state == .done) =
      pool.length := by
  induction pool with
  | nil => rfl
  | cons x xs ih =>
    simp only [List.countP_cons, List.length_cons, ← ih]
    cases x.state <;> simp <;> omega

/-- Every channel is in one of the five presence states. -/
theorem countP_presences (bus : Tab 64 BusRec) (l : List Channel) :
    l.countP (bus[·].presence == .absent) + l.countP (bus[·].presence == .present) +
      l.countP (bus[·].presence == .faulted) + l.countP (bus[·].presence == .reviving) +
      l.countP (bus[·].presence == .isolated) = l.length := by
  induction l with
  | nil => rfl
  | cons c cs ih =>
    simp only [List.countP_cons, List.length_cons, ← ih]
    cases bus[c].presence <;> simp <;> omega

theorem length_channels : channels.length = 64 := by
  unfold channels
  exact List.length_finRange

theorem presenceCount_eq (s : State) (p : Presence) :
    s.presenceCount p = (List.finRange 64).countP fun c => decide (s.bus[c].presence = p) := by
  unfold State.presenceCount channels
  rfl

/-- Settles O33. -/
theorem askStatusAnswersAndClears : Obligations.AskStatusAnswersAndClears := by
  intro rx s accepted addressed room pool
  obtain ⟨q, d, e, answers⟩ := managementFrame_answers (act := actAskStatus) accepted addressed room (.inr rfl) rfl
    ⟨rfl, rfl, rfl, rfl, rfl⟩
  refine ⟨_, statusOf s, congrArg Host.Outcome.next e, rfl, answers, rfl, rfl, rfl, rfl, rfl, ?_, rfl, rfl, rfl, rfl,
    rfl, rfl, ?_, presenceCount_eq s _, presenceCount_eq s _, presenceCount_eq s _, presenceCount_eq s _, rfl, rfl,
    rfl, rfl, rfl⟩
  · have states := countP_states s.pool
    show s.poolCount .queued + s.poolCount .showing + s.poolCount .done + (128 - s.pool.length) = 128
    simp only [State.poolCount]
    omega
  · exact (countP_presences s.bus channels).trans length_channels

end Sys2Proof.Machine
end

section
/-! PROOFS. Task frames: not taken (O17), a POST refused (O19) and a POST taken (O18). -/

namespace Sys2Proof.Machine

/-! ### The claim rules (R11, R12) -/

/-- The command of a task kind goes by the claim rules; R12's room is asked of a RUN alone. -/
theorem exec_task {k : Kind} (rx : RxFrame) (s : State) (kind : isTaskKind k = true) :
    ∃ room act, exec (frameCommand k rx) s =
        .next (receiveDown (received k rx)
          (claimFrame k (wordAt rx.payload 0) (locationAt rx.payload 2) room act) s) ∧
      (room = false ↔ k = .run ∧ 31 ≤ s.queue.length) := by
  cases k <;> simp [isTaskKind] at kind
  case run =>
    refine ⟨s.essentialRoom, _, rfl, ?_⟩
    rw [← Bool.not_eq_true, essentialRoom_iff]
    simp
    omega
  all_goals exact ⟨true, _, rfl, by simp⟩

/-- An accepted task frame is dispatched by the claim rules. -/
theorem receiveDown_received {k : Kind} {rx : RxFrame} {s : State} {act : Frame → State → State}
    (accepted : Accepted k rx s) : receiveDown (received k rx) act s = act (received k rx) s :=
  receiveDown_accepted ((goodFrame_iff k rx).mp accepted.1) accepted.2

/-- An offer changes the report queue and the advisory-withheld mark alone (R174, R175). -/
theorem offer_form (b : ReportBody) (s : State) :
    ∃ q w, offer b s = { s with queue := q, withheld := w } ∧
      Offers (placesNeeded b) b s { s with queue := q, withheld := w } := by
  have pos := placesNeeded_pos b
  unfold Offers
  rcases offer_cases b s with ⟨room, e⟩ | ⟨full, e⟩
  · refine ⟨_, s.withheld, e, ?_⟩
    rw [if_pos (length_add_placesNeeded_le room), stamp_eq]
    exact ⟨rfl, rfl⟩
  · have full : 32 - s.queue.length < placesNeeded b := full
    refine ⟨s.queue, true, e, ?_⟩
    rw [if_neg (by omega)]
    exact ⟨rfl, rfl⟩

/-- A RUN of an own location without essential room passes (R12). -/
theorem claimFrame_noRoom {k : Kind} {tag : Tag} {loc : Location} {act : EntryNo → Channel → State → State}
    {f : Frame} {s : State} {i : EntryNo} {c : Channel} (own : ownedBy s loc = some (i, c))
    (clear : claimMark f = false) : claimFrame k tag loc false act f s = passFrame k tag loc f s := by
  simp [claimFrame, own, clear]

/-- Settles O17, by ownership, claim mark and terminal status. -/
theorem taskFramesNotTaken : Obligations.TaskFramesNotTaken := by
  intro k rx s kind accepted tag loc owned marked passed
  obtain ⟨room, act, run, noRoom⟩ := exec_task rx s kind
  rw [run, receiveDown_received accepted]
  have mark : claimMark (received k rx) = rx.flags.getLsbD 0 := rfl
  have passes (h : passed) :
      claimFrame k tag loc room act (received k rx) s = passFrame k tag loc (received k rx) s := by
    cases own : ownedBy s loc with
    | none => exact claimFrame_elsewhere own
    | some place =>
      obtain ⟨i, c⟩ := place
      obtain ⟨running, block⟩ := ownedBy_eq_some.mp own
      obtain ⟨clear, isRun⟩ := h.resolve_left (not_not.mpr ⟨running, i, c, block⟩)
      rw [noRoom.mpr isRun]
      exact claimFrame_noRoom own (Bool.eq_false_of_not_eq_true clear)
  refine ⟨?_, fun pass clear terminal => ?_, fun pass through => ?_⟩
  · rintro ⟨running, i, c, block⟩ isMarked
    rw [claimFrame_marked (ownedBy_eq_some.mpr ⟨running, block⟩) (mark.trans isMarked)]
    obtain ⟨q, w, e, offers⟩ := offer_form (.doubleClaim tag loc) s
    obtain ⟨relayed, relays⟩ := relayDown_form (received k rx) (offer (.doubleClaim tag loc) s)
    rw [e] at relayed relays ⊢
    exact ⟨_, congrArg Host.Outcome.next relayed, rfl, offers, relays⟩
  · obtain ⟨q, w, e, offers⟩ := offer_form (.unclaimed tag loc k) s
    have drops : (s.terminal && !claimMark (received k rx)) = true := by
      rw [mark, terminal, Bool.eq_false_of_not_eq_true clear]
      rfl
    rw [passes pass, passFrame, if_pos drops]
    exact ⟨_, congrArg Host.Outcome.next e, rfl, offers⟩
  · have relay : ¬ (s.terminal && !claimMark (received k rx)) = true := by
      rw [mark]
      rcases through with isMarked | notTerminal
      · simp [show rx.flags.getLsbD 0 = true from isMarked]
      · simp [notTerminal]
    rw [passes pass, passFrame, if_neg relay]
    exact ⟨_, rfl, relayDown_form _ s⟩

/-! ### The checks of a POST (R65, R66) -/

/-- Some record carries the tag exactly when one is found. -/
theorem isSome_findTag_iff (pool : List Task) (tag : Tag) :
    (findTag pool tag).isSome = true ↔ ∃ x ∈ pool, x.tag = tag := by
  simp [findTag, List.find?_isSome]

/-- A listed task carries the lane, over standing lists (R66). -/
theorem laneListed_iff {s : State} (lists : ListsStand s) (c : Channel) (lane : LaneNo) :
    laneListed s c lane = true ↔ ∃ x ∈ s.pool, x.tag ∈ s.slots[c] ∧ x.lane = lane := by
  unfold laneListed
  rw [List.any_eq_true]
  constructor
  · rintro ⟨tag, listed, found⟩
    obtain ⟨x, at', same⟩ := (Option.any_eq_true ..).mp found
    obtain ⟨live, rfl⟩ := findTag_some at'
    exact ⟨x, live, listed, by simpa using same⟩
  · rintro ⟨x, live, listed, same⟩
    exact ⟨x.tag, listed, by rw [findTag_of_mem lists.tags live]; simpa using same⟩

/-- The condition of a POST fails, line by line of R66, over standing lists. -/
theorem conditionFails_iff {s : State} (lists : ListsStand s) (c : Channel) (lane : LaneNo) (k : Condition) :
    (!conditionHolds s c lane k) = true ↔
      (k = .ifIdle ∧ s.slots[c] ≠ []) ∨
      (k = .ifLaneFree ∧ ∃ x ∈ s.pool, x.tag ∈ s.slots[c] ∧ x.lane = lane) ∨
      (k = .ifPresent ∧ s.bus[c].presence ≠ .present) := by
  cases k with
  | always => simp [conditionHolds]
  | ifIdle => simp [conditionHolds]
  | ifLaneFree =>
    rw [← laneListed_iff lists]
    simp [conditionHolds]
  | ifPresent => simp [conditionHolds, State.isPresent]

/-- The checks of a POST in the words of the statements, over standing lists. -/
theorem postCheck_eq {s : State} (lists : ListsStand s) (i : EntryNo) (c : Channel) (v : PostOp) :
    postCheck s i c v =
      (if 9999 < v.q then some .badQuantity
       else if s.ranges[i].permPost = false then some .notPermitted
       else if s.lanes[v.lane].enabled = false then some .laneDisabled
       else if s.bus[c].presence = .absent then some .slotAbsent
       else if s.bus[c].presence = .isolated then some .slotIsolated
       else if ∃ x ∈ s.pool, x.tag = v.tag then some .tagInUse
       else if (v.condition = .ifIdle ∧ s.slots[c] ≠ []) ∨
           (v.condition = .ifLaneFree ∧ ∃ x ∈ s.pool, x.tag ∈ s.slots[c] ∧ x.lane = v.lane) ∨
           (v.condition = .ifPresent ∧ s.bus[c].presence ≠ .present) then some .conditionFalse
       else if 8 ≤ s.slots[c].length then some .listFull
       else if 128 ≤ s.pool.length then some .poolFull
       else none) := by
  simp only [postCheck, firstFailing]
  exact if_congr decide_eq_true_iff rfl <| if_congr (Bool.not_eq_true' _).to_iff rfl <|
    if_congr (Bool.not_eq_true' _).to_iff rfl <| if_congr beq_iff_eq rfl <| if_congr beq_iff_eq rfl <| if_congr (isSome_findTag_iff ..) rfl <|
    if_congr (conditionFails_iff lists ..) rfl <| if_congr decide_eq_true_iff rfl <|
    if_congr decide_eq_true_iff rfl rfl

/-- A claimed POST is acted on and relayed marked (R7, R11). -/
theorem exec_post_claimed {rx : RxFrame} {i : EntryNo} {c : Channel} {s : State}
    (claimed : Claimed .post rx i c s) :
    exec (.post rx) s =
      .next (relayDown (markClaimed (received .post rx)) (actPost (postOp rx.payload) i c s)) := by
  obtain ⟨accepted, running, block, clear⟩ := claimed
  refine congrArg Host.Outcome.next ((receiveDown_received accepted).trans ?_)
  exact claimFrame_claimed (ownedBy_eq_some.mpr ⟨running, block⟩) clear rfl

/-- Settles O19: the checks, and the record that a refusal offers. -/
theorem postRefusedByTheFirstFailingCheck : Obligations.PostRefusedByTheFirstFailingCheck := by
  intro rx i c s r lists claimed v failing
  have check : postCheck s i c v = some r := (postCheck_eq lists i c v).trans failing
  have refuses : actPost v i c s = offer (.refused .post v.tag v.loc c r) s := by
    simp only [actPost, check, refuseTask]
  obtain ⟨q, w, e, offers⟩ := offer_form (.refused .post v.tag v.loc c r) s
  rw [exec_post_claimed claimed, refuses, e]
  obtain ⟨relayed, relays⟩ :=
    relayDown_form (markClaimed (received .post rx)) { s with queue := q, withheld := w }
  exact ⟨_, congrArg Host.Outcome.next relayed, rfl, offers, relays⟩

/-! ### A posted task joins its list (R60, R67, R84) -/

/-- A new record is the record of the statements, waiting (R55). -/
theorem newTask_eq (tag : Tag) (loc : Location) (c : Channel) (lane : LaneNo) (urgency q deadline : Nat)
    (origin : Option RunOrigin) :
    newTask tag loc c lane urgency q deadline origin =
      freshRecord tag loc c lane urgency q deadline origin .queued := by
  unfold newTask freshRecord
  rcases Nat.eq_zero_or_pos deadline with zero | pos
  · simp [zero]
  · simp [pos, Nat.pos_iff_ne_zero.mp pos]

/-- The urgency of a live record's tag. -/
theorem urgencyOf_of_mem {pool : List Task} (nodup : (pool.map (·.tag)).Nodup) {x : Task} (live : x ∈ pool) :
    urgencyOf pool x.tag = x.urgency := by
  simp [urgencyOf, findTag_of_mem nodup live]

/-- A tag that joins the waiting entries stands behind those of the same or higher urgency and ahead of the
first of lower urgency (R84). -/
theorem insertWaiting_split {pool : List Task} (nodup : (pool.map (·.tag)).Nodup) (u : Nat) (tag : Tag)
    (xs : List Tag) :
    ∃ ahead behind, xs = ahead ++ behind ∧ insertWaiting pool u tag xs = ahead ++ tag :: behind ∧
      (∀ y ∈ pool, y.tag ∈ ahead → u ≤ y.urgency) ∧ (∀ y ∈ pool, behind.head? = some y.tag → y.urgency < u) := by
  induction xs with
  | nil => exact ⟨[], [], rfl, rfl, by simp, by simp⟩
  | cons x xs ih =>
    unfold insertWaiting
    split
    · rename_i lower
      refine ⟨[], x :: xs, rfl, rfl, by simp, fun y live first => ?_⟩
      obtain rfl : x = y.tag := Option.some.inj first
      rwa [urgencyOf_of_mem nodup live] at lower
    · rename_i notLower
      obtain ⟨ahead, behind, split, joined, higher, lower⟩ := ih
      refine ⟨x :: ahead, behind, by rw [split]; rfl, by rw [joined]; rfl, fun y live listed => ?_, lower⟩
      rcases List.mem_cons.mp listed with first | later
      · rw [← first, urgencyOf_of_mem nodup live] at notLower
        exact Nat.le_of_not_lt notLower
      · exact higher y live later

/-- The slot lists after a post. -/
theorem postTask_slots_self (x : Task) (s : State) :
    (postTask x s).slots[x.channel] = insertSlot s.pool x.urgency x.tag s.slots[x.channel] :=
  getElem_updTab_self ..

theorem postTask_slots_ne {x : Task} {c : Channel} (other : c ≠ x.channel) (s : State) :
    (postTask x s).slots[c] = s.slots[c] :=
  getElem_updTab_ne s.slots other.symm _

/-- A channel's first entry after a post: the new task in an empty list, else the entry before. -/
theorem postTask_first (x : Task) (s : State) (c : Channel) :
    (postTask x s).slots[c].head? =
      if c = x.channel ∧ s.slots[c] = [] then some x.tag else s.slots[c].head? := by
  by_cases here : c = x.channel
  · subst here
    rw [postTask_slots_self]
    by_cases empty : s.slots[x.channel] = []
    · rw [if_pos ⟨rfl, empty⟩, empty]
      rfl
    · rw [if_neg fun h => empty h.2, head_insertSlot _ _ _ empty]
  · rw [postTask_slots_ne here, if_neg fun h => here h.1]

/-- A post makes no older record SHOWING (R60). -/
theorem promote_older {s : State} (lists : ListsStand s) (x : Task) :
    promote (postTask x s).slots s.pool = s.pool := by
  unfold promote
  refine (List.map_congr_left fun y live => if_neg ?_).trans (List.map_id' s.pool)
  rintro ⟨queued, first⟩
  have waits : y.state ≠ .done := by simp [queued]
  rw [postTask_first] at first
  split at first
  · rename_i empty
    have listed := lists.stands y live waits
    rw [empty.2] at listed
    cases listed
  · have showing := (lists.first y live waits).mpr first
    rw [queued] at showing
    cases showing

/-- The pool after a post: the new record at its end, SHOWING where its list was empty (R60, R67). -/
theorem postTask_pool {s : State} (lists : ListsStand s) {x : Task} (waits : x.state = .queued)
    (fresh : ∀ y ∈ s.pool, y.tag ≠ x.tag) :
    (postTask x s).pool =
      s.pool ++ [if s.slots[x.channel] = [] then { x with state := .showing } else x] := by
  have split : (postTask x s).pool = promote (postTask x s).slots s.pool ++ promote (postTask x s).slots [x] :=
    List.map_append
  have stands : ((postTask x s).slots[x.channel].head? = some x.tag) ↔ s.slots[x.channel] = [] := by
    rw [postTask_first]
    cases list : s.slots[x.channel] with
    | nil => simp
    | cons tag tags =>
      obtain ⟨y, live, rfl, _⟩ := lists.listed x.channel tag (by simp [list])
      simp [fresh y live]
  rw [split, promote_older lists]
  simp only [promote, List.map_cons, List.map_nil, waits, true_and, stands]

/-- A post into an empty list is a head change; any other changes no display record (R60, R85). -/
theorem postTask_disp (x : Task) (s : State) (c : Channel) :
    (postTask x s).disp[c] =
      if c = x.channel ∧ s.slots[c] = [] then headChanged s s.disp[c] else s.disp[c] := by
  have head := postTask_first x s c
  refine (restand_disp ..).trans ?_
  show (if s.slots[c].head? = (postTask x s).slots[c].head? then _ else
    headChange s.time s.settleUnits (postTask x s).slots[c].isEmpty s.disp[c]) = _
  split_ifs at head ⊢ with same empty empty
  · rw [empty.2, head] at same
    cases same
  · rfl
  · have filled : (postTask x s).slots[c].isEmpty = false := by
      cases list : (postTask x s).slots[c] with
      | nil => simp [list] at head
      | cons _ _ => rfl
    rw [filled]
    rfl
  · exact absurd head.symm same

/-- A post of a record that is not expired leaves the beacon (R168). -/
theorem postTask_beacon {s : State} (lists : ListsStand s) {x : Task} (waits : x.state = .queued)
    (fresh : ∀ y ∈ s.pool, y.tag ≠ x.tag) (young : x.expired = false) (q : BeaconTrue s) :
    (postTask x s).beacon = s.beacon := by
  have posted : BeaconTrue (postTask x s) := beaconTrue_evalBeacon _
  have late : (∃ y ∈ (postTask x s).pool, y.state = .showing ∧ y.expired = true) ↔
      ∃ y ∈ s.pool, y.state = .showing ∧ y.expired = true := by
    rw [postTask_pool lists waits fresh]
    split_ifs <;> simp [or_and_right, exists_or, young]
  unfold BeaconTrue at posted
  rw [late] at posted
  exact Bool.eq_iff_iff.mpr (posted.trans q.symm)

/-- Settles O18: the checks pass, and the new record joins its list. -/
theorem postTakenMakesOneRecord : Obligations.PostTakenMakesOneRecord := by
  intro rx i c s lists claimed v quantity permitted enabled notAbsent notIsolated fresh ifIdle ifLaneFree ifPresent
    list pool
  have check : postCheck s i c v = none := by
    rw [postCheck_eq lists, if_neg (Nat.not_lt.mpr quantity), if_neg (ne_false_of_eq_true permitted),
      if_neg (ne_false_of_eq_true enabled), if_neg notAbsent, if_neg notIsolated,
      if_neg (fun ⟨x, live, same⟩ => fresh x live same), if_neg ?_,
      if_neg (Nat.not_le.mpr list), if_neg (Nat.not_le.mpr pool)]
    rintro (⟨k, h⟩ | ⟨k, x, live, listed, lane⟩ | ⟨k, h⟩)
    · exact h (ifIdle k)
    · exact ifLaneFree k x live listed lane
    · exact h (ifPresent k)
  let x := freshRecord v.tag v.loc c v.lane v.urgency v.q v.deadline none .queued
  have posts : actPost v i c s = postTask x s := by
    simp only [actPost, check, newTask_eq, x]
  obtain ⟨relayed, relays⟩ := relayDown_form (markClaimed (received .post rx)) (postTask x s)
  have posted : (postTask x s).pool =
      s.pool ++ [if s.slots[c] = [] then { x with state := .showing } else x] := postTask_pool lists rfl fresh
  have slot : (postTask x s).slots[c] = insertSlot s.pool v.urgency v.tag s.slots[c] := postTask_slots_self x s
  rw [exec_post_claimed claimed, posts]
  refine ⟨_, congrArg Host.Outcome.next relayed, rfl, relays, postTask_beacon lists rfl fresh rfl,
    fun c' other => ⟨postTask_slots_ne other s, ?_⟩, fun empty => ⟨?_, ?_, ?_⟩, fun first rest filled => ?_⟩
  · exact (postTask_disp x s c').trans (if_neg fun h => other h.1)
  · exact slot.trans (by rw [empty]; rfl)
  · exact (postTask_disp x s c).trans (if_pos ⟨rfl, empty⟩)
  · exact posted.trans (by rw [if_pos empty]; rfl)
  · have notEmpty : ¬ s.slots[c] = [] := by simp [filled]
    obtain ⟨ahead, behind, split, joined, higher, lower⟩ := insertWaiting_split lists.tags v.urgency v.tag rest
    refine ⟨(postTask_disp x s c).trans (if_neg fun h => notEmpty h.2), posted.trans (by rw [if_neg notEmpty]),
      ahead, behind, split, ?_, higher, lower⟩
    exact slot.trans (by rw [filled, insertSlot, joined]; rfl)

end Sys2Proof.Machine
end

section
/-! PROOFS. The range table: where a mapped channel lies in its entry's span (R40, R41), and what the checks of
a load say of the table it leaves (R30 to R35). -/

namespace Sys2Proof.Machine

/-! ### Spans and channel mapping (R23, R40, R41) -/

theorem inBounds_iff (e : RangeEntry) (l : Location) :
    inBounds e l = true ↔ (e.bayLo ≤ l.bay ∧ l.bay ≤ e.bayHi) ∧ (e.levLo ≤ l.level ∧ l.level ≤ e.levHi) ∧
      e.posLo ≤ l.pos ∧ l.pos ≤ e.posHi := by
  simp [inBounds, and_assoc]

theorem inSpan_iff (e : RangeEntry) (c : Channel) :
    inSpan e c = true ↔ e.mode = .block ∧ e.base ≤ c.val ∧ c.val < e.base + spanSize e := by
  simp [inSpan, and_assoc]

theorem geometryFits_iff (e : RangeEntry) :
    geometryFits e = true ↔
      e.bayLo ≤ e.bayHi ∧ e.levLo ≤ e.levHi ∧ e.posLo ≤ e.posHi ∧ e.base + spanSize e ≤ 64 := by
  simp [geometryFits, and_assoc]

/-- The position offset of a location within bounds is below the number of positions, in every order (R40). -/
theorem posOffset_lt {e : RangeEntry} {l : Location} (lo : e.posLo ≤ l.pos) (hi : l.pos ≤ e.posHi) :
    posOffset e l < e.posHi + 1 - e.posLo := by
  unfold posOffset
  cases e.order with
  | normal => dsimp only; omega
  | reversed => dsimp only; omega
  | serpentine => dsimp only; split <;> omega
  | serpentineReversed => dsimp only; split <;> omega

/-- A two-digit number of mixed radix is below the product of the radices. -/
theorem mul_add_lt_mul {a x m n : Nat} (ha : a < m) (hx : x < n) : a * n + x < m * n :=
  calc a * n + x < a * n + n := Nat.add_lt_add_left hx _
    _ = (a + 1) * n := (Nat.succ_mul a n).symm
    _ ≤ m * n := Nat.mul_le_mul_right n ha

/-- The index of a location within bounds lies within the span (R40, R41). -/
theorem spanIndex_lt_spanSize {e : RangeEntry} {l : Location} (h : inBounds e l = true) :
    spanIndex e l < spanSize e := by
  obtain ⟨⟨bayLo, bayHi⟩, ⟨levLo, levHi⟩, posLo, posHi⟩ := (inBounds_iff e l).mp h
  have level : (l.level - e.levLo) * (e.posHi + 1 - e.posLo) + posOffset e l <
      (e.levHi + 1 - e.levLo) * (e.posHi + 1 - e.posLo) :=
    mul_add_lt_mul (by omega) (posOffset_lt posLo posHi)
  have bay : l.bay - e.bayLo < e.bayHi + 1 - e.bayLo := by omega
  have index := mul_add_lt_mul bay level
  rwa [← Nat.mul_assoc, ← Nat.mul_assoc, ← Nat.add_assoc] at index

/-- A location is governed by an entry that covers it (R22). -/
theorem covers_of_governing {r : Tab 16 RangeEntry} {l : Location} {i : EntryNo} (h : governing r l = some i) :
    covers r[i] l = true := by
  unfold governing at h
  simpa using List.find?_some h

/-- Over a standing table, the channel that a BLOCK entry gives a governed location lies in its span (R41). -/
theorem RangesStand.inSpan_mapChannel {r : Tab 16 RangeEntry} (stands : RangesStand r) {l : Location}
    {i : EntryNo} (governs : governing r l = some i) (block : r[i].mode = .block) :
    inSpan r[i] (mapChannel r[i] l) = true := by
  have within : inBounds r[i] l = true := (Bool.and_eq_true_iff.mp (covers_of_governing governs)).2
  have index := spanIndex_lt_spanSize within
  obtain ⟨-, -, -, top⟩ := (geometryFits_iff r[i]).mp (stands.geometry i block)
  have value : (mapChannel r[i] l).val = r[i].base + spanIndex r[i] l := Nat.mod_eq_of_lt (by omega)
  rw [inSpan_iff, value]
  exact ⟨block, Nat.le_add_right _ _, Nat.add_lt_add_left index _⟩

/-- A match answered with a channel names the governing BLOCK entry, which maps the location to it (R24). -/
theorem matchLocation_block {r : Tab 16 RangeEntry} {l : Location} {i : EntryNo} {c : Channel}
    (h : matchLocation r l = .block i c) :
    governing r l = some i ∧ r[i].mode = .block ∧ c = mapChannel r[i] l := by
  unfold matchLocation at h
  split at h
  · cases h
  · split at h <;> cases h
    exact ⟨‹_›, ‹_›, rfl⟩

/-! ### The checks of a load (R29 to R34) -/

/-- The entry is one a load may leave: its fields fit and, if BLOCK, its geometry (R30, R32). -/
def EntryStands (e : RangeEntry) : Prop := fieldsFit e = true ∧ (e.mode = .block → geometryFits e = true)

theorem RangesStand.entryStands {r : Tab 16 RangeEntry} (stands : RangesStand r) (i : EntryNo) :
    EntryStands r[i] := ⟨stands.fields i, stands.geometry i⟩

/-- An entry of the frame passes exactly when its codes name values and the entry written stands. -/
theorem entryPasses_iff (o : EntryOp) :
    entryPasses o = true ↔ ∃ e, entryOf o = some e ∧ EntryStands e := by
  unfold entryPasses EntryStands
  cases entryOf o with
  | none => simp
  | some e => simp [Bool.or_eq_true, imp_iff_not_or]

/-- Two entries that fit overlap exactly when some channel lies in both spans (R33). -/
theorem spansOverlap_iff {a b : RangeEntry} (fits : EntryStands a) :
    spansOverlap a b = true ↔ ∃ c : Channel, inSpan a c = true ∧ inSpan b c = true := by
  have parts : spansOverlap a b = true ↔ a.mode = .block ∧ b.mode = .block ∧ a.base < b.base + spanSize b ∧
      b.base < a.base + spanSize a ∧ 0 < spanSize a ∧ 0 < spanSize b := by
    simp [spansOverlap, and_assoc]
  simp only [parts, inSpan_iff]
  constructor
  · rintro ⟨blockA, blockB, below, above, sizeA, sizeB⟩
    obtain ⟨-, -, -, top⟩ := (geometryFits_iff a).mp (fits.2 blockA)
    refine ⟨⟨max a.base b.base, by omega⟩, ⟨blockA, ?_⟩, blockB, ?_⟩ <;> dsimp only <;> omega
  · rintro ⟨c, ⟨blockA, loA, hiA⟩, blockB, loB, hiB⟩
    exact ⟨blockA, blockB, by omega, by omega, by omega, by omega⟩

/-- An entry that stands overlaps another exactly when their spans share a channel (R33). -/
theorem overlapsOther_iff {r : Tab 16 RangeEntry} {i : EntryNo} (fits : EntryStands r[i]) :
    overlapsOther r i = true ↔
      ∃ (j : EntryNo) (c : Channel), j ≠ i ∧ inSpan r[i] c = true ∧ inSpan r[j] c = true := by
  unfold overlapsOther
  rw [List.any_eq_true]
  refine exists_congr fun j => ?_
  rw [Bool.and_eq_true, bne_iff_ne, spansOverlap_iff fits]
  simp

theorem geometryChange_iff (old new : RangeEntry) :
    geometryChange old new = true ↔ old.mode = .block ∧ ¬ SameGeometry old new := by
  unfold geometryChange
  rw [Bool.and_eq_true, beq_iff_eq, Bool.not_eq_true', ← Bool.not_eq_true]
  simp [SameGeometry, and_assoc]

theorem spanBusy_iff (slots : Tab 64 (List Tag)) (e : RangeEntry) :
    spanBusy slots e = true ↔ ∃ c : Channel, inSpan e c = true ∧ slots[c] ≠ [] := by
  simp [spanBusy]

/-- Entries of one geometry have one span (R23, R34). -/
theorem SameGeometry.inSpan_eq {e f : RangeEntry} (same : SameGeometry e f) (c : Channel) :
    inSpan e c = inSpan f c := by
  obtain ⟨mode, bayLo, bayHi, levLo, levHi, posLo, posHi, base, -⟩ := same
  have size : spanSize e = spanSize f := by simp only [spanSize, bayLo, bayHi, levLo, levHi, posLo, posHi]
  rw [Bool.eq_iff_iff, inSpan_iff, inSpan_iff, mode, base, size]

/-- A place of the table after a load: as it was where the window leaves it out, else an entry of the window. -/
theorem loadedTable_cases {w : List (EntryNo × EntryOp)} (named : ∀ x ∈ w, (entryOf x.2).isSome = true)
    (r : Tab 16 RangeEntry) (i : EntryNo) :
    ((∀ x ∈ w, x.1 ≠ i) ∧ (loadedTable r w)[i] = r[i]) ∨
    ∃ x ∈ w, x.1 = i ∧ entryOf x.2 = some (loadedTable r w)[i] := by
  induction w generalizing r with
  | nil => exact .inl ⟨nofun, rfl⟩
  | cons x w ih =>
    obtain ⟨first, rest⟩ := List.forall_mem_cons.mp named
    obtain ⟨e, written⟩ := Option.isSome_iff_exists.mp first
    have loads : loadedTable r (x :: w) = loadedTable (r.set x.1 e) w := by simp [loadedTable, written]
    rw [loads]
    rcases ih rest (r.set x.1 e) with ⟨others, same⟩ | ⟨y, mem, place, value⟩
    · rw [same]
      by_cases here : x.1 = i
      · subst here
        exact .inr ⟨x, List.mem_cons_self, rfl, by simpa using written⟩
      · refine .inl ⟨List.forall_mem_cons.mpr ⟨here, others⟩, ?_⟩
        simp [Vector.getElem_set_ne, Fin.val_ne_of_ne here]
    · exact .inr ⟨y, List.mem_cons_of_mem x mem, place, value⟩

/-- An entry of the frame that passes names its values. -/
theorem isSome_entryOf {o : EntryOp} (h : entryPasses o = true) : (entryOf o).isSome = true := by
  obtain ⟨e, written, -⟩ := (entryPasses_iff o).mp h
  rw [written]
  rfl

/-- Every entry of the table after a load whose entries pass is one a load may leave. -/
theorem entryStands_loadedTable {r : Tab 16 RangeEntry} (stands : RangesStand r)
    {w : List (EntryNo × EntryOp)} (passes : ∀ x ∈ w, entryPasses x.2 = true) (i : EntryNo) :
    EntryStands (loadedTable r w)[i] := by
  rcases loadedTable_cases (fun x mem => isSome_entryOf (passes x mem)) r i with ⟨-, same⟩ | ⟨x, mem, -, value⟩
  · rw [same]
    exact stands.entryStands i
  · obtain ⟨e, written, fits⟩ := (entryPasses_iff x.2).mp (passes x mem)
    obtain rfl : (loadedTable r w)[i] = e := Option.some.inj (value.symm.trans written)
    exact fits

/-- What it takes for a load to pass the four checks of R31. -/
structure LoadPasses (r : Tab 16 RangeEntry) (slots : Tab 64 (List Tag)) (w : List (EntryNo × EntryOp)) :
    Prop where
  unlocked : ∀ x ∈ w, r[x.1].locked = false
  entries : ∀ x ∈ w, entryPasses x.2 = true
  apart : ∀ x ∈ w, overlapsOther (loadedTable r w) x.1 = false
  idle : ∀ x ∈ w, geometryChange r[x.1] (loadedTable r w)[x.1] = true → spanBusy slots r[x.1] = false

theorem loadPasses_of_loadFails {r : Tab 16 RangeEntry} {slots : Tab 64 (List Tag)}
    {w : List (EntryNo × EntryOp)} (h : loadFails r slots w = none) : LoadPasses r slots w := by
  unfold loadFails at h
  split at h
  · cases h
  · rename_i unlocked
    split at h
    · cases h
    · rename_i entries
      split at h
      · cases h
      · rename_i apart
        split at h
        · cases h
        · rename_i idle
          rw [List.find?_eq_none] at unlocked entries apart idle
          exact ⟨fun x mem => by simpa using unlocked x mem, fun x mem => by simpa using entries x mem,
            fun x mem => by simpa using apart x mem, fun x mem => by simpa using idle x mem⟩

/-- A place of the table after a load that passes: as it was, or an entry of the window. -/
theorem LoadPasses.place {r : Tab 16 RangeEntry} {slots : Tab 64 (List Tag)} {w : List (EntryNo × EntryOp)}
    (passes : LoadPasses r slots w) (i : EntryNo) : (loadedTable r w)[i] = r[i] ∨ ∃ x ∈ w, x.1 = i :=
  (loadedTable_cases (fun x mem => isSome_entryOf (passes.entries x mem)) r i).imp And.right
    fun ⟨x, mem, at', _⟩ => ⟨x, mem, at'⟩

/-- A load that passes leaves a standing table standing (R30 to R33). -/
theorem LoadPasses.rangesStand {r : Tab 16 RangeEntry} {slots : Tab 64 (List Tag)}
    {w : List (EntryNo × EntryOp)} (passes : LoadPasses r slots w) (stands : RangesStand r) :
    RangesStand (loadedTable r w) := by
  have fits := entryStands_loadedTable stands passes.entries
  have apart {i j : EntryNo} {c : Channel} (written : ∃ x ∈ w, x.1 = i) (ne : j ≠ i)
      (hi : inSpan (loadedTable r w)[i] c = true) : inSpan (loadedTable r w)[j] c = false := by
    obtain ⟨x, mem, rfl⟩ := written
    refine Bool.eq_false_of_not_eq_true fun hj => ?_
    have overlaps := (overlapsOther_iff (fits x.1)).mpr ⟨j, c, ne, hi, hj⟩
    rw [passes.apart x mem] at overlaps
    cases overlaps
  refine ⟨fun i => (fits i).1, fun i => (fits i).2, fun i j c ne hi => ?_⟩
  rcases passes.place i with sameI | writtenI
  · rcases passes.place j with sameJ | writtenJ
    · rw [sameI] at hi
      rw [sameJ]
      exact stands.disjoint i j c ne hi
    · refine Bool.eq_false_of_not_eq_true fun hj => ?_
      rw [apart writtenJ ne hj] at hi
      cases hi
  · exact apart writtenI ne.symm hi

/-- A load that passes leaves every channel with a task in the span that it was in (R34). -/
theorem LoadPasses.inSpan_of_busy {r : Tab 16 RangeEntry} {slots : Tab 64 (List Tag)}
    {w : List (EntryNo × EntryOp)} (passes : LoadPasses r slots w) {i : EntryNo} {c : Channel}
    (busy : slots[c] ≠ []) (owner : inSpan r[i] c = true) : inSpan (loadedTable r w)[i] c = true := by
  rcases passes.place i with same | ⟨x, mem, rfl⟩
  · rw [same]
    exact owner
  · have same : SameGeometry r[x.1] (loadedTable r w)[x.1] := by
      by_contra differs
      have block := ((inSpan_iff _ c).mp owner).1
      have idle := passes.idle x mem ((geometryChange_iff ..).mpr ⟨block, differs⟩)
      rw [(spanBusy_iff ..).mpr ⟨c, owner, busy⟩] at idle
      cases idle
    exact (same.inSpan_eq c).symm.trans owner

/-- A load that passes leaves a locked entry alone (R29). -/
theorem LoadPasses.getElem_of_locked {r : Tab 16 RangeEntry} {slots : Tab 64 (List Tag)}
    {w : List (EntryNo × EntryOp)} (passes : LoadPasses r slots w) {i : EntryNo} (locked : r[i].locked = true) :
    (loadedTable r w)[i] = r[i] := by
  rcases passes.place i with same | ⟨x, mem, rfl⟩
  · exact same
  · rw [passes.unlocked x mem] at locked
    cases locked

end Sys2Proof.Machine
end

section
/-! PROOFS. What every command does to the range table and to the channels that hold tasks: O5 (a locked entry
stands until a reset) and O58 (the table stands, and every task list lies in a span). -/

namespace Sys2Proof.Machine

/-! ### Commands that leave the range table -/

/-- The range table stands from s to t; and where it stands as loads leave it, a list that is not empty in t
was not empty in s, or its channel lies in a span (R23, R34). -/
structure SpansFrom (s t : State) : Prop where
  ranges : t.ranges = s.ranges
  lists : RangesStand s.ranges → ∀ c : Channel, t.slots[c] ≠ [] →
    s.slots[c] ≠ [] ∨ ∃ i : EntryNo, inSpan s.ranges[i] c = true

/-- No list that was empty gains a task. -/
theorem SpansFrom.of_empty {s t : State} (ranges : t.ranges = s.ranges)
    (slots : ∀ c : Channel, s.slots[c] = [] → t.slots[c] = []) : SpansFrom s t :=
  ⟨ranges, fun _ c => .inl ∘ mt (slots c)⟩

theorem SpansFrom.of_same {s t : State} (ranges : t.ranges = s.ranges) (slots : t.slots = s.slots) :
    SpansFrom s t := .of_empty ranges fun c => (congrArg (·[c]) slots).trans

theorem SpansFrom.refl (s : State) : SpansFrom s s := .of_same rfl rfl

theorem SpansFrom.trans {s t u : State} (h : SpansFrom s t) (k : SpansFrom t u) : SpansFrom s u := by
  refine ⟨k.ranges.trans h.ranges, fun stands c filled => ?_⟩
  have second := k.lists
  rw [h.ranges] at second
  exact (second stands c filled).elim (h.lists stands c) .inr

/-- What leaves table and lists alone after it adds nothing. -/
theorem SpansFrom.then_same {s t u : State} (h : SpansFrom s t) (ranges : u.ranges = t.ranges)
    (slots : u.slots = t.slots) : SpansFrom s u := h.trans (.of_same ranges slots)

/-! ### Operations on lists -/

/-- Freed tasks only shorten lists (R57). -/
theorem freeListed_spans (p : Task → Bool) (s : State) : SpansFrom s (freeListed p s) := by
  refine .of_empty rfl fun c empty => ?_
  have slot : (freeListed p s).slots[c] = s.slots[c].filter _ := getElem_mapTab ..
  rw [slot, empty]
  rfl

/-- A post fills the list of its channel alone (R84). -/
theorem postTask_spans {x : Task} {s : State}
    (owner : RangesStand s.ranges → ∃ i : EntryNo, inSpan s.ranges[i] x.channel = true) :
    SpansFrom s (postTask x s) := by
  refine ⟨rfl, fun stands c filled => ?_⟩
  by_cases here : c = x.channel
  · exact .inr (here ▸ owner stands)
  · exact .inl (postTask_slots_ne here s ▸ filled)

/-- A taken confirm press shortens the list of its channel (R126). -/
theorem takeConfirm_spans (c : Channel) (x : Task) (s : State) : SpansFrom s (takeConfirm c x s) := by
  refine .of_empty rfl fun e empty => ?_
  show (updTab s.slots c (·.drop 1))[e.val] = []
  have empty : s.slots[e.val] = [] := empty
  rw [getElem_updTab, empty]
  exact ite_self _

/-! ### Reception and dispatch (R4, R11, R13) -/

theorem countCheck_spans (lane : StringLane) (s : State) : SpansFrom s (countCheck lane s) := by
  cases lane <;> exact .of_same rfl rfl

theorem countOverrun_spans (lane : StringLane) (s : State) : SpansFrom s (countOverrun lane s) := by
  cases lane <;> exact .of_same rfl rfl

theorem relayDown_spans (f : Frame) (s : State) : SpansFrom s (relayDown f s) := .of_same (by simp) (by simp)

theorem offer_spans (b : ReportBody) (s : State) : SpansFrom s (offer b s) := .of_same (by simp) (by simp)

theorem receiveDown_spans {f : Frame} {act : Frame → State → State} {s : State}
    (dispatched : SpansFrom s (act f s)) : SpansFrom s (receiveDown f act s) := by
  rcases receiveDown_cases f act s with ⟨_, e⟩ | ⟨_, _, e⟩ | ⟨_, _, e⟩
  · rw [e]
    exact countCheck_spans .down s
  · rw [e]
    exact countOverrun_spans .down s
  · rw [e]
    exact dispatched

/-- A management frame leaves table and lists as they were, or as its owning block leaves them (R13). -/
theorem managementFrame_tables (k : Kind) (rx : RxFrame) (act : Frame → State → State × Answer) (s : State) :
    ∃ u, (u = s ∨ u = (act (received k rx) s).1) ∧ (managementFrame k rx act s).ranges = u.ranges ∧
      (managementFrame k rx act s).slots = u.slots := by
  have answered : ∃ u, (u = s ∨ u = (act (received k rx) s).1) ∧
      (answerFrame k (act (received k rx)) s).ranges = u.ranges ∧
      (answerFrame k (act (received k rx)) s).slots = u.slots := by
    unfold answerFrame
    split
    · split
      · exact ⟨s, .inl rfl, rfl, rfl⟩
      · exact ⟨_, .inr rfl, rfl, rfl⟩
    · exact ⟨s, .inl rfl, rfl, rfl⟩
  show ∃ u, _ ∧ (receiveDown (received k rx) (dispatchManagement k act) s).ranges = _ ∧
    (receiveDown (received k rx) (dispatchManagement k act) s).slots = _
  rcases receiveDown_cases (received k rx) (dispatchManagement k act) s with ⟨_, e⟩ | ⟨_, _, e⟩ | ⟨_, _, e⟩
  · exact ⟨s, .inl rfl, by rw [e]; exact ⟨rfl, rfl⟩⟩
  · exact ⟨s, .inl rfl, by rw [e]; exact ⟨rfl, rfl⟩⟩
  · rw [e]
    unfold dispatchManagement
    split
    · exact answered
    · simpa using answered
    · exact ⟨s, .inl rfl, by simp⟩

theorem managementFrame_spans {k : Kind} {rx : RxFrame} {act : Frame → State → State × Answer} {s : State}
    (acts : ∀ f, SpansFrom s (act f s).1) : SpansFrom s (managementFrame k rx act s) := by
  obtain ⟨u, from', ranges, slots⟩ := managementFrame_tables k rx act s
  rcases from' with rfl | rfl
  · exact .of_same ranges slots
  · exact (acts _).then_same ranges slots

theorem passFrame_spans (k : Kind) (tag : Tag) (loc : Location) (f : Frame) (s : State) :
    SpansFrom s (passFrame k tag loc f s) := by
  unfold passFrame
  split
  · exact offer_spans ..
  · exact relayDown_spans ..

/-- A task frame acts on the channel to which a BLOCK entry maps its location (R11, R24). -/
theorem claimFrame_spans {k : Kind} {tag : Tag} {loc : Location} {room : Bool}
    {act : EntryNo → Channel → State → State} {f : Frame} {s : State}
    (acts : ∀ i c, matchLocation s.ranges loc = .block i c → SpansFrom s (act i c s)) :
    SpansFrom s (claimFrame k tag loc room act f s) := by
  unfold claimFrame
  split
  · exact passFrame_spans ..
  · rename_i i c own
    split
    · exact (offer_spans ..).trans (relayDown_spans ..)
    · split
      · exact (acts i c (ownedBy_eq_some.mp own).2).trans (relayDown_spans ..)
      · exact passFrame_spans ..

/-! ### Task frames -/

/-- Over a standing table, the channel a location is matched to lies in the span of its entry (R24, R41). -/
theorem RangesStand.inSpan_of_match {r : Tab 16 RangeEntry} (stands : RangesStand r) {l : Location}
    {i : EntryNo} {c : Channel} (h : matchLocation r l = .block i c) : inSpan r[i] c = true := by
  obtain ⟨governs, block, rfl⟩ := matchLocation_block h
  exact stands.inSpan_mapChannel governs block

theorem actPost_spans {v : PostOp} {i : EntryNo} {c : Channel} {s : State} {l : Location}
    (at' : matchLocation s.ranges l = .block i c) : SpansFrom s (actPost v i c s) := by
  unfold actPost
  split
  · exact offer_spans ..
  · exact postTask_spans fun stands => ⟨i, stands.inSpan_of_match at'⟩

/-- A walk posts only to the channel of a location that the run's entry governs (R106, R107). -/
theorem walkStep_post_governed {v : RunOp} {i : EntryNo} {k : Nat} {l : Location} {s : State} {x : Task}
    (h : walkStep v i k l s = .post x) :
    governing s.ranges l = some i ∧ x.channel = mapChannel s.ranges[i] l := by
  unfold walkStep at h
  extract_lets c at h
  split_ifs at h with elsewhere
  cases h
  exact ⟨not_not.mp elsewhere, rfl⟩

theorem walk_spans (v : RunOp) {i : EntryNo} (fuel k left : Nat) (l : Location) {s : State}
    (block : s.ranges[i].mode = .block) : SpansFrom s (walk v i fuel k left l s).state := by
  induction fuel generalizing k left l s with
  | zero => exact .refl s
  | succ fuel ih =>
    unfold walk
    split
    · exact .refl s
    · split
      · exact .refl s
      · exact ih _ _ _ block
    · rename_i x step
      obtain ⟨governs, channel⟩ := walkStep_post_governed step
      have posted : SpansFrom s (postTask x s) :=
        postTask_spans fun stands => ⟨i, channel ▸ stands.inSpan_mapChannel governs block⟩
      extract_lets s'
      split
      · exact posted
      · split
        · exact posted
        · exact posted.trans (ih _ _ _ block)

theorem actRun_spans {v : RunOp} {i : EntryNo} {c : Channel} {s : State} {l : Location}
    (at' : matchLocation s.ranges l = .block i c) : SpansFrom s (actRun v i c s) := by
  unfold actRun
  split
  · exact offer_spans ..
  · exact (walk_spans v _ _ _ _ (matchLocation_block at').2.1).then_same rfl rfl

theorem actAmend_spans (v : TagOp) (i : EntryNo) (c : Channel) (s : State) :
    SpansFrom s (actAmend v i c s) := by
  unfold actAmend
  split
  · exact offer_spans ..
  · split
    · exact offer_spans ..
    · split
      · exact offer_spans ..
      · exact .of_same rfl rfl
      · exact .of_same rfl rfl

theorem actWithdraw_spans (v : TagOp) (i : EntryNo) (c : Channel) (s : State) :
    SpansFrom s (actWithdraw v i c s) := by
  unfold actWithdraw lateWithdraw
  split
  · exact offer_spans ..
  · split
    · split <;> exact .of_same rfl rfl
    · exact freeListed_spans ..
    · exact freeListed_spans ..

theorem actRelease_spans (v : TagOp) (i : EntryNo) (c : Channel) (s : State) :
    SpansFrom s (actRelease v i c s) := by
  unfold actRelease
  split
  · exact .refl s
  · split
    · exact .of_same rfl rfl
    · exact offer_spans ..
    · exact offer_spans ..

/-! ### Management frames -/

theorem actLanes_spans (f : Frame) (s : State) : SpansFrom s (actLanes f s).1 := by
  unfold actLanes
  extract_lets first w
  split
  · exact .refl s
  · split
    · exact .refl s
    · split
      · exact .refl s
      · exact .of_same rfl rfl

theorem actPurge_spans (f : Frame) (s : State) : SpansFrom s (actPurge f s).1 := by
  unfold actPurge
  extract_lets b
  split
  · exact freeListed_spans ..
  · exact .refl s

theorem actSweep_spans (f : Frame) (s : State) : SpansFrom s (actSweep f s).1 := by
  unfold actSweep
  split
  · exact .refl s
  · exact freeListed_spans ..
  · exact freeListed_spans ..

theorem actHold_spans (f : Frame) (s : State) : SpansFrom s (actHold f s).1 := by
  unfold actHold
  split
  · exact .refl s
  · exact .of_same (by simp) (by simp)

theorem actResume_spans (f : Frame) (s : State) : SpansFrom s (actResume f s).1 := by
  unfold actResume
  split
  · exact .of_same (by simp) (by simp)
  · exact .refl s

theorem actRevive_spans (f : Frame) (s : State) : SpansFrom s (actRevive f s).1 := by
  unfold actRevive
  extract_lets b forced
  split
  · extract_lets c
    cases s.presenceOf c with
    | isolated => dsimp only; split <;> exact .of_same rfl rfl
    | _ => exact .of_same rfl rfl
  · exact .refl s

theorem actTest_spans (f : Frame) (s : State) : SpansFrom s (actTest f s).1 := by
  unfold actTest
  split
  · exact .refl s
  · split
    · exact .refl s
    · exact .of_same rfl rfl

theorem actAskSlot_spans (f : Frame) (s : State) : SpansFrom s (actAskSlot f s).1 := by
  unfold actAskSlot
  extract_lets b
  split <;> exact .refl s

theorem actAskTask_spans (f : Frame) (s : State) : SpansFrom s (actAskTask f s).1 := by
  unfold actAskTask
  split <;> exact .refl s

/-! ### The string port -/

theorem execLineBreak_waiting_spans {p g : Bool} {s t : State} (waits : s.breakWait = true)
    (h : execLineBreak p g s = .next t) : SpansFrom s t := by
  unfold execLineBreak at h
  rw [if_pos waits] at h
  cases h
  exact .refl s

theorem execBreakRelayEnd_spans {s t : State} (h : execBreakRelayEnd s = .next t) : SpansFrom s t := by
  unfold execBreakRelayEnd at h
  split at h <;> cases h
  exact .of_same rfl rfl

theorem execTerminalStatusChange_spans {p : Bool} {s t : State}
    (h : execTerminalStatusChange p s = .next t) : SpansFrom s t := by
  unfold execTerminalStatusChange at h
  split_ifs at h <;> cases h <;> exact .of_same rfl rfl

theorem execFrameEarlyDiscard_spans {lane : StringLane} {cause : EarlyCause} {s t : State}
    (h : execFrameEarlyDiscard lane cause s = .next t) : SpansFrom s t := by
  cases h
  split
  · exact countCheck_spans lane s
  · exact .refl s

/-- A discarded frame is counted, where it is not ignored (R4, R5). -/
theorem execDiscardedFrame_cases {lane : StringLane} {kind : Byte} {rx : RxFrame} {s t : State}
    (h : execDiscardedFrame lane kind rx s = .next t) :
    t = s ∨ t = countCheck lane s ∨ t = countOverrun lane s := by
  unfold execDiscardedFrame at h
  extract_lets f at h
  cases lane with
  | down => dsimp only at h; cases e : checkDown f <;> simp only [e] at h <;> grind
  | up => dsimp only at h; cases e : checkUp f <;> simp only [e] at h <;> grind

theorem execDiscardedFrame_spans {lane : StringLane} {kind : Byte} {rx : RxFrame} {s t : State}
    (h : execDiscardedFrame lane kind rx s = .next t) : SpansFrom s t := by
  rcases execDiscardedFrame_cases h with rfl | rfl | rfl
  · exact .refl t
  · exact countCheck_spans lane s
  · exact countOverrun_spans lane s

theorem execUnknownKindFrame_spans {kind : Byte} {rx : RxFrame} {s t : State}
    (h : execUnknownKindFrame kind rx s = .next t) : SpansFrom s t := by
  unfold execUnknownKindFrame at h
  split at h <;> cases h
  exact receiveDown_spans (relayDown_spans ..)

theorem dispatchEnumerate_spans (f : Frame) (s : State) : SpansFrom s (dispatchEnumerate f s) := by
  unfold dispatchEnumerate
  extract_lets n t
  split
  · split <;> exact .of_same rfl rfl
  · exact .of_same (relayDown_ranges t _) (relayDown_slots t _)

theorem receiveUp_spans (f : Frame) (s : State) : SpansFrom s (receiveUp f s) := by
  rcases receiveUp_cases f s with ⟨_, e⟩ | ⟨_, _, e⟩ | ⟨_, _, e⟩
  · rw [e]
    exact countCheck_spans .up s
  · rw [e]
    exact countOverrun_spans .up s
  · rw [e]
    exact .of_same rfl rfl

theorem execUpFrameAccepted_spans {kind : Byte} {rx : RxFrame} {s t : State}
    (h : execUpFrameAccepted kind rx s = .next t) : SpansFrom s t := by
  cases h
  split
  · exact .refl s
  · exact receiveUp_spans ..

theorem execDownRelayStart_spans {rdy : Bool} {s t : State}
    (h : execDownRelayStart rdy s = .next t) : SpansFrom s t := by
  unfold execDownRelayStart at h
  dsimp only at h
  split at h
  · cases h
    exact .of_same rfl rfl
  · split at h <;> cases h <;> exact .of_same rfl rfl

theorem execDownRelayComplete_spans {s t : State} (h : execDownRelayComplete s = .next t) :
    SpansFrom s t := by
  unfold execDownRelayComplete at h
  split at h <;> cases h
  exact .of_same rfl rfl

theorem execUpMergeGrant_spans {rdy : Bool} {s t : State} (h : execUpMergeGrant rdy s = .next t) :
    SpansFrom s t := by
  unfold execUpMergeGrant at h
  dsimp only at h
  split at h
  · split at h <;> cases h <;> exact .of_same rfl rfl
  · cases h
    exact .of_same rfl rfl

theorem execReportFrameSent_spans {s t : State} (h : execReportFrameSent s = .next t) : SpansFrom s t := by
  unfold execReportFrameSent at h
  split at h
  · split at h <;> cases h
    exact .of_same rfl rfl
  · cases h

theorem execUpRelayComplete_spans {s t : State} (h : execUpRelayComplete s = .next t) : SpansFrom s t := by
  unfold execUpRelayComplete at h
  split at h
  · split at h <;> cases h
    exact .of_same rfl rfl
  · cases h

/-! ### Timers and the GUARD line -/

theorem expireDeadline_spans (x : Task) (s : State) : SpansFrom s (expireDeadline x s) :=
  .of_same (by simp [expireDeadline]) (by simp [expireDeadline])

theorem expireBlink_spans (c : Channel) (s : State) : SpansFrom s (expireBlink c s) := .of_same rfl rfl

theorem expireProbation_spans (c : Channel) (s : State) : SpansFrom s (expireProbation c s) := .of_same rfl rfl

theorem expireGuard_spans (s : State) : SpansFrom s (expireGuard s) :=
  .of_same (by simp [expireGuard]) (by simp [expireGuard])

/-- A fold keeps what each of its steps keeps. -/
theorem SpansFrom.foldl {α : Type} {f : State → α → State} (each : ∀ s x, SpansFrom s (f s x)) (l : List α)
    (s : State) : SpansFrom s (l.foldl f s) := by
  induction l generalizing s with
  | nil => exact .refl s
  | cons x xs ih => exact (each s x).trans (ih (f s x))

theorem flushExpiries_spans (s : State) : SpansFrom s (flushExpiries s) := by
  unfold flushExpiries
  extract_lets expired freed blinks probations tested
  have cFreed : SpansFrom s freed := (SpansFrom.foldl (fun s x => expireDeadline_spans x s) _ _).then_same rfl rfl
  have cBlinks : SpansFrom s blinks := cFreed.trans (.foldl (fun s c => expireBlink_spans c s) _ _)
  have cProbations : SpansFrom s probations :=
    cBlinks.trans (.foldl (fun s c => expireProbation_spans c s) _ _)
  have cTested : SpansFrom s tested := by
    unfold tested
    split
    · exact cProbations.then_same rfl rfl
    · exact cProbations
  split
  · exact cTested.trans (expireGuard_spans _)
  · exact cTested

theorem execDeadlineExpiry_spans {c : Channel} {s t : State} (h : execDeadlineExpiry c s = .next t) :
    SpansFrom s t := by
  unfold execDeadlineExpiry at h
  split at h
  · split at h <;> cases h
    exact expireDeadline_spans ..
  · cases h

theorem execDoneHoldExpiry_spans {tag : Tag} {s t : State} (h : execDoneHoldExpiry tag s = .next t) :
    SpansFrom s t := by
  unfold execDoneHoldExpiry at h
  split at h
  · split at h <;> cases h
    exact .of_same rfl rfl
  · cases h

theorem execWaitBlinkExpiry_spans {c : Channel} {s t : State} (h : execWaitBlinkExpiry c s = .next t) :
    SpansFrom s t := by
  unfold execWaitBlinkExpiry at h
  split at h <;> cases h
  exact expireBlink_spans c s

theorem execProbationExpiry_spans {c : Channel} {s t : State} (h : execProbationExpiry c s = .next t) :
    SpansFrom s t := by
  unfold execProbationExpiry at h
  split at h <;> cases h
  exact expireProbation_spans c s

theorem execLampTestExpiry_spans {s t : State} (h : execLampTestExpiry s = .next t) : SpansFrom s t := by
  unfold execLampTestExpiry at h
  split at h <;> cases h
  exact .of_same rfl rfl

theorem execGuardAssertion_spans {s t : State} (h : execGuardAssertion s = .next t) : SpansFrom s t := by
  cases h
  exact .of_same (by simp) (by simp)

theorem execGuardRelease_spans {s t : State} (h : execGuardRelease s = .next t) : SpansFrom s t := by
  unfold execGuardRelease at h
  split at h
  · extract_lets u at h
    have released : SpansFrom s u := .of_same rfl rfl
    cases h
    split
    · exact released.trans (expireGuard_spans u)
    · exact released
  · cases h
    exact .refl s

theorem execGuardReleaseTimerExpiry_spans {s t : State} (h : execGuardReleaseTimerExpiry s = .next t) :
    SpansFrom s t := by
  unfold execGuardReleaseTimerExpiry at h
  split at h <;> cases h
  exact expireGuard_spans s

/-! ### The shelf bus -/

theorem visitRunning_spans (s : State) : SpansFrom s (visitRunning s) := by
  unfold visitRunning
  split <;> exact .of_same rfl rfl

theorem execVisit_spans {s t : State} (h : execVisit s = .next t) : SpansFrom s t := by
  unfold execVisit at h
  split_ifs at h
  · cases h
    exact .refl s
  · split at h <;> cases h
    · exact .of_same rfl rfl
    · exact visitRunning_spans s

theorem execShowStart_spans {s t : State} (h : execShowStart s = .next t) : SpansFrom s t := by
  unfold execShowStart at h
  split_ifs at h
  · cases h
    exact .refl s
  · split at h
    · cases h
      exact .of_same rfl rfl
    · split at h <;> cases h
      exact .of_same rfl rfl

theorem adjustPress_spans (c : Channel) (s : State) : SpansFrom s (adjustPress c s) := by
  unfold adjustPress
  split
  · exact .refl s
  · split
    · exact .refl s
    · split_ifs <;> exact .of_same rfl rfl

theorem confirmPress_spans (c : Channel) (s : State) : SpansFrom s (confirmPress c s) := by
  unfold confirmPress
  split
  · exact .refl s
  · split
    · exact offer_spans ..
    · split_ifs
      · exact offer_spans ..
      · exact .of_same rfl rfl
      · exact takeConfirm_spans ..

theorem reading_spans (c : Channel) (confirm adjust : KeyLevel) (s : State) :
    SpansFrom s (reading c confirm adjust s) := by
  unfold reading
  extract_lets b read adjusted
  have cRead : SpansFrom s read := .of_same rfl rfl
  have cAdjusted : SpansFrom s adjusted := by
    unfold adjusted
    split
    · exact cRead.trans (adjustPress_spans c read)
    · exact cRead
  split
  · exact cAdjusted.trans (confirmPress_spans c adjusted)
  · exact cAdjusted

/-- A miss after a visit or a SHOW has ended (R144). -/
theorem SpansFrom.then_miss {s t : State} (h : SpansFrom s t) (c : Channel) : SpansFrom s (miss c t) :=
  h.then_same (by simp) (by simp)

theorem onBus_spans (c : Channel) (f : BusRec → BusRec) (s : State) : SpansFrom s (onBus c f s) :=
  .of_same rfl rfl

theorem endVisit_spans (s : State) : SpansFrom s (endVisit s) := .of_same rfl rfl

theorem execPollAnswered_spans {a : List Byte} {s t : State} (h : execPollAnswered a s = .next t) :
    SpansFrom s t := by
  unfold execPollAnswered at h
  split at h
  · rename_i c _
    split at h <;> cases h
    · exact ((endVisit_spans s).then_same (answered_ranges _ c) (answered_slots _ c)).trans (reading_spans ..)
    · exact (endVisit_spans s).then_miss c
  · cases h

theorem execPollSilent_spans {s t : State} (h : execPollSilent s = .next t) : SpansFrom s t := by
  unfold execPollSilent at h
  split at h <;> cases h
  exact (endVisit_spans s).then_miss _

theorem showFails_spans (c : Channel) (s : State) : SpansFrom s (showFails c s) :=
  .of_same (by simp [showFails]) (by simp [showFails])

theorem execShowAcknowledged_spans {a : List Byte} {s t : State}
    (h : execShowAcknowledged a s = .next t) : SpansFrom s t := by
  unfold execShowAcknowledged at h
  split at h
  · split at h <;> cases h
    · exact .of_same rfl rfl
    · exact showFails_spans ..
  · cases h

theorem execShowSilent_spans {s t : State} (h : execShowSilent s = .next t) : SpansFrom s t := by
  unfold execShowSilent at h
  split at h <;> cases h
  exact showFails_spans ..

theorem revived_spans (c : Channel) (k : Caps) (s : State) : SpansFrom s (revived c k s) :=
  .of_same (by simp [revived]) (by simp [revived])

theorem execDescribeAnswered_spans {a : List Byte} {s t : State}
    (h : execDescribeAnswered a s = .next t) : SpansFrom s t := by
  unfold execDescribeAnswered at h
  split at h
  · split at h <;> cases h
    · exact (endVisit_spans s).trans (revived_spans ..)
    · exact (endVisit_spans s).then_miss _
  · cases h

theorem execDescribeSilent_spans {s t : State} (h : execDescribeSilent s = .next t) : SpansFrom s t := by
  unfold execDescribeSilent at h
  split at h <;> cases h
  exact (endVisit_spans s).then_miss _

theorem inventoryMoves_spans (c : Channel) (s : State) : SpansFrom s (inventoryMoves c s) := by
  unfold inventoryMoves
  split <;> exact .of_same rfl rfl

theorem inventoryFails_spans (c : Channel) (s : State) : SpansFrom s (inventoryFails c s) := by
  have missed := (endVisit_spans s).then_miss c
  unfold inventoryFails
  split
  · exact missed
  · exact missed.trans (inventoryMoves_spans ..)

theorem execInventoryAnswered_spans {a : List Byte} {s t : State}
    (h : execInventoryAnswered a s = .next t) : SpansFrom s t := by
  unfold execInventoryAnswered at h
  split at h
  · rename_i c _
    split at h <;> cases h
    · exact ((endVisit_spans s).trans (onBus_spans c _ _)).trans (inventoryMoves_spans ..)
    · exact inventoryFails_spans c s
  · cases h

theorem execInventorySilent_spans {s t : State} (h : execInventorySilent s = .next t) : SpansFrom s t := by
  unfold execInventorySilent at h
  split at h <;> cases h
  exact inventoryFails_spans ..

/-! ### Every command -/

/-- The range table after a LOCK of the entries a payload names (R36). -/
def lockedTable (p : List Byte) (r : Tab 16 RangeEntry) : Tab 16 RangeEntry :=
  mapTab r fun i e => { e with locked := e.locked || lockNames p i }

theorem getElem_lockedTable (p : List Byte) (r : Tab 16 RangeEntry) (i : EntryNo) :
    (lockedTable p r)[i] = { r[i] with locked := r[i].locked || lockNames p i } := getElem_mapTab ..

/-- Everything a command can do to the range table: leave it, with every list in a span; reset it; load it with
all checks passed; or lock entries. The last two leave the lists. -/
inductive SpanEffect (s : State) : Instr → State → Prop where
  | stands {c : Instr} {t : State} (spans : SpansFrom s t) : SpanEffect s c t
  | resets {c : Instr} {t : State} (p g : Bool) (reset : c = .powerOnReset p g ∨ c = .lineBreak p g)
      (ranges : t.ranges = (powerOn p g s).ranges) (slots : t.slots = (powerOn p g s).slots) : SpanEffect s c t
  | loads {c : Instr} {t : State} (w : List (EntryNo × EntryOp)) (passes : LoadPasses s.ranges s.slots w)
      (ranges : t.ranges = loadedTable s.ranges w) (slots : t.slots = s.slots) : SpanEffect s c t
  | locks {c : Instr} {t : State} (p : List Byte) (ranges : t.ranges = lockedTable p s.ranges)
      (slots : t.slots = s.slots) : SpanEffect s c t

theorem execLineBreak_spanEffect {p g : Bool} {s t : State} (h : execLineBreak p g s = .next t) :
    SpanEffect s (.lineBreak p g) t := by
  by_cases waits : s.breakWait = true
  · exact .stands (execLineBreak_waiting_spans waits h)
  · have ready : s.breakWait = false := Bool.eq_false_of_not_eq_true waits
    cases mode : s.ctrl with
    | running =>
      rw [execLineBreak_running ready mode] at h
      cases h
      exact .resets p g (.inr rfl) rfl rfl
    | starting =>
      rw [execLineBreak_starting ready mode] at h
      cases h
      exact .resets p g (.inr rfl) rfl rfl

/-- A RANGES frame's block refuses the load, or writes it with all checks passed (R29 to R35). -/
theorem actRanges_cases (f : Frame) (s : State) :
    (actRanges f s).1 = s ∨
    ∃ w, LoadPasses s.ranges s.slots w ∧ (actRanges f s).1 = { s with ranges := loadedTable s.ranges w } := by
  unfold actRanges
  extract_lets first w
  split
  · exact .inl rfl
  · split
    · exact .inl rfl
    · exact .inr ⟨w, loadPasses_of_loadFails ‹_›, rfl⟩

theorem execRanges_spanEffect (rx : RxFrame) (s : State) :
    SpanEffect s (.ranges rx) (managementFrame .ranges rx actRanges s) := by
  obtain ⟨u, from', ranges, slots⟩ := managementFrame_tables .ranges rx actRanges s
  rcases from' with rfl | rfl
  · exact .stands (.of_same ranges slots)
  · rcases actRanges_cases (received .ranges rx) s with same | ⟨w, passes, loaded⟩
    · rw [same] at ranges slots
      exact .stands (.of_same ranges slots)
    · rw [loaded] at ranges slots
      exact .loads w passes ranges slots

/-- A LOCK frame's block refuses, or locks the named entries (R36). -/
theorem actLock_cases (f : Frame) (s : State) :
    (actLock f s).1 = s ∨ (actLock f s).1 = { s with ranges := lockedTable f.payload s.ranges } := by
  unfold actLock
  split
  · exact .inl rfl
  · exact .inr rfl

theorem execLock_spanEffect (rx : RxFrame) (s : State) :
    SpanEffect s (.lock rx) (managementFrame .lock rx actLock s) := by
  obtain ⟨u, from', ranges, slots⟩ := managementFrame_tables .lock rx actLock s
  rcases from' with rfl | rfl
  · exact .stands (.of_same ranges slots)
  · rcases actLock_cases (received .lock rx) s with same | locked
    · rw [same] at ranges slots
      exact .stands (.of_same ranges slots)
    · rw [locked] at ranges slots
      exact .locks rx.payload ranges slots

/-- A command that answers a next state has one of these effects on the range table. -/
theorem exec_spanEffect {c : Instr} {s t : State} (h : exec c s = .next t) : SpanEffect s c t := by
  cases c with
  | powerOnReset p g => cases h; exact .resets p g (.inl rfl) rfl rfl
  | lineBreak => exact execLineBreak_spanEffect h
  | ranges rx => cases h; exact execRanges_spanEffect rx s
  | lock rx => cases h; exact execLock_spanEffect rx s
  | breakRelayEnd => exact .stands (execBreakRelayEnd_spans h)
  | terminalStatusChange => exact .stands (execTerminalStatusChange_spans h)
  | frameEarlyDiscard => exact .stands (execFrameEarlyDiscard_spans h)
  | discardedFrame => exact .stands (execDiscardedFrame_spans h)
  | unknownKindFrame => exact .stands (execUnknownKindFrame_spans h)
  | upiSpacing => cases h; exact .stands (.refl s)
  | post => cases h; exact .stands (receiveDown_spans (claimFrame_spans fun _ _ => actPost_spans))
  | run => cases h; exact .stands (receiveDown_spans (claimFrame_spans fun _ _ => actRun_spans))
  | amend => cases h; exact .stands (receiveDown_spans (claimFrame_spans fun i c _ => actAmend_spans _ i c s))
  | withdraw =>
    cases h; exact .stands (receiveDown_spans (claimFrame_spans fun i c _ => actWithdraw_spans _ i c s))
  | release => cases h; exact .stands (receiveDown_spans (claimFrame_spans fun i c _ => actRelease_spans _ i c s))
  | enumerate => cases h; exact .stands (receiveDown_spans (dispatchEnumerate_spans ..))
  | setup => cases h; exact .stands (managementFrame_spans fun _ => .of_same rfl rfl)
  | lanes => cases h; exact .stands (managementFrame_spans (actLanes_spans · s))
  | purge => cases h; exact .stands (managementFrame_spans (actPurge_spans · s))
  | sweep => cases h; exact .stands (managementFrame_spans (actSweep_spans · s))
  | hold => cases h; exact .stands (managementFrame_spans (actHold_spans · s))
  | resume => cases h; exact .stands (managementFrame_spans (actResume_spans · s))
  | revive => cases h; exact .stands (managementFrame_spans (actRevive_spans · s))
  | test => cases h; exact .stands (managementFrame_spans (actTest_spans · s))
  | askStatus => cases h; exact .stands (managementFrame_spans fun _ => .of_same rfl rfl)
  | askSlot => cases h; exact .stands (managementFrame_spans (actAskSlot_spans · s))
  | askTask => cases h; exact .stands (managementFrame_spans (actAskTask_spans · s))
  | upFrameAccepted => exact .stands (execUpFrameAccepted_spans h)
  | downRelayStart => exact .stands (execDownRelayStart_spans h)
  | downRelayComplete => exact .stands (execDownRelayComplete_spans h)
  | upMergeGrant => exact .stands (execUpMergeGrant_spans h)
  | reportFrameSent => exact .stands (execReportFrameSent_spans h)
  | upRelayComplete => exact .stands (execUpRelayComplete_spans h)
  | timeAdvance => cases h; exact .stands ((flushExpiries_spans s).then_same rfl rfl)
  | deadlineExpiry => exact .stands (execDeadlineExpiry_spans h)
  | doneHoldExpiry => exact .stands (execDoneHoldExpiry_spans h)
  | waitBlinkExpiry => exact .stands (execWaitBlinkExpiry_spans h)
  | probationExpiry => exact .stands (execProbationExpiry_spans h)
  | lampTestExpiry => exact .stands (execLampTestExpiry_spans h)
  | guardAssertion => exact .stands (execGuardAssertion_spans h)
  | guardRelease => exact .stands (execGuardRelease_spans h)
  | guardReleaseTimerExpiry => exact .stands (execGuardReleaseTimerExpiry_spans h)
  | visit => exact .stands (execVisit_spans h)
  | showStart => exact .stands (execShowStart_spans h)
  | pollAnswered => exact .stands (execPollAnswered_spans h)
  | pollSilent => exact .stands (execPollSilent_spans h)
  | showAcknowledged => exact .stands (execShowAcknowledged_spans h)
  | showSilent => exact .stands (execShowSilent_spans h)
  | describeAnswered => exact .stands (execDescribeAnswered_spans h)
  | describeSilent => exact .stands (execDescribeSilent_spans h)
  | inventoryAnswered => exact .stands (execInventoryAnswered_spans h)
  | inventorySilent => exact .stands (execInventorySilent_spans h)

/-! ### Locked entries and spans -/

/-- Settles O5, by the effects a command can have on the range table. -/
theorem lockedEntriesStandUntilReset : Obligations.LockedEntriesStandUntilReset := by
  intro c s t i h locked
  cases exec_spanEffect h with
  | stands spans => exact .inl (by rw [spans.ranges])
  | resets p g reset => exact .inr ⟨p, g, reset⟩
  | loads w passes ranges =>
    rw [ranges]
    exact .inl (passes.getElem_of_locked locked)
  | locks p ranges =>
    rw [ranges, getElem_lockedTable, locked]
    refine .inl ?_
    rw [Bool.true_or, ← locked]

/-- A lock changes the span of no entry. -/
theorem inSpan_lockedTable (p : List Byte) (r : Tab 16 RangeEntry) (i : EntryNo) :
    inSpan (lockedTable p r)[i] = inSpan r[i] := by
  rw [getElem_lockedTable]
  rfl

theorem RangesStand.lockedTable {r : Tab 16 RangeEntry} (stands : RangesStand r) (p : List Byte) :
    RangesStand (lockedTable p r) where
  fields := fun i => by rw [getElem_lockedTable]; exact stands.fields i
  geometry := fun i => by rw [getElem_lockedTable]; exact stands.geometry i
  disjoint := fun i j c => by rw [inSpan_lockedTable, inSpan_lockedTable]; exact stands.disjoint i j c

theorem SpanEffect.keeps {s t : State} {c : Instr} (h : SpanEffect s c t) (stands : RangesStand s.ranges)
    (owners : ListsHaveOwners s) : RangesStand t.ranges ∧ ListsHaveOwners t := by
  unfold ListsHaveOwners
  cases h with
  | stands spans =>
    rw [spans.ranges]
    exact ⟨stands, fun c filled => (spans.lists stands c filled).elim (owners c) id⟩
  | resets p g reset ranges slots =>
    rw [ranges, slots]
    exact ⟨rangesStand_powerOn p g s, fun c filled => absurd (powerOn_slots p g s c) filled⟩
  | loads w passes ranges slots =>
    rw [ranges, slots]
    refine ⟨passes.rangesStand stands, fun c filled => ?_⟩
    obtain ⟨i, owner⟩ := owners c filled
    exact ⟨i, passes.inSpan_of_busy filled owner⟩
  | locks p ranges slots =>
    rw [ranges, slots]
    refine ⟨stands.lockedTable p, fun c filled => ?_⟩
    obtain ⟨i, owner⟩ := owners c filled
    exact ⟨i, by rw [inSpan_lockedTable]; exact owner⟩

/-- Settles O58: what the front command does to the range table and to the lists keeps both. -/
theorem everyStepKeepsTheSpans : Obligations.EveryStepKeepsTheSpans := by
  intro s t stands owners h
  unfold step at h
  split at h
  · cases h
    exact ⟨stands, owners⟩
  · exact (exec_spanEffect h).keeps stands owners

end Sys2Proof.Machine
end

section
/-! PROOFS. A RANGES load in the words of the statements (O27): its window by places of the frame, each check of
R31 at the first place where it fails, and the table that a load which passes leaves. -/

namespace Sys2Proof.Machine

/-! ### The window (R28) -/

/-- The window of a RANGES frame, place by place. -/
theorem loadWindow_entryOps (first : Nat) (p : List Byte) :
    loadWindow first (entryOps p) =
      (List.range ((p.length - 1) / 10)).map fun k => (windowIndex first k, entryOpAt p (1 + 10 * k)) := by
  refine List.ext_getElem (by simp [loadWindow, entryOps]) fun k _ _ => ?_
  simp [loadWindow, entryOps]

/-- A window of at most 16 entries names no index twice. -/
theorem windowIndex_inj {first j k : Nat} (hj : j < 16) (hk : k < 16)
    (h : windowIndex first j = windowIndex first k) : j = k := by
  have values : (first + j) % 16 = (first + k) % 16 := congrArg Fin.val h
  omega

/-- A RANGES frame that passes R4 carries at most 8 entries (R28, R187). -/
theorem entries_le_of_goodFrame {rx : RxFrame} (good : GoodFrame .ranges rx) :
    (rx.payload.length - 1) / 10 ≤ 8 := by
  obtain ⟨-, size, -⟩ := good
  have size : (11 ≤ rx.payload.length ∧ rx.payload.length ≤ 81) ∧ rx.payload.length % 10 = 1 := by
    simpa [sizeAgrees] using size
  omega

/-- The first of n places at which a check fails is the one found. -/
theorem find?_map_range {α : Type} {f : Nat → α} {check : α → Bool} {fails : Nat → Prop} {n k : Nat}
    (iff : ∀ k, check (f k) = true ↔ fails k) (first : FirstFailing n fails k) :
    ((List.range n).map f).find? check = some (f k) := by
  obtain ⟨inside, failing, before⟩ := first
  refine List.find?_eq_some_iff_getElem.mpr
    ⟨(iff k).mpr failing, k, by simpa using inside, by simp, fun j earlier => ?_⟩
  simpa [← iff] using before j earlier

/-! ### The checks in order (R31) -/

section
variable {r : Tab 16 RangeEntry} {slots : Tab 64 (List Tag)} {w : List (EntryNo × EntryOp)}

/-- Nothing is found where a check fails nowhere. -/
theorem find?_none_of_forall {α : Type} {l : List α} {fails : α → Bool} (h : ∀ x ∈ l, fails x = false) :
    l.find? fails = none :=
  List.find?_eq_none.mpr fun x mem => Bool.not_eq_true _ ▸ h x mem

theorem loadFails_locked {x : EntryNo × EntryOp} (found : (w.find? fun x => r[x.1].locked) = some x) :
    loadFails r slots w = some (.locked, x.1) := by
  simp only [loadFails, found]

theorem loadFails_badEntry {x : EntryNo × EntryOp} (unlocked : ∀ x ∈ w, r[x.1].locked = false)
    (found : (w.find? fun x => !entryPasses x.2) = some x) : loadFails r slots w = some (.badEntry, x.1) := by
  simp only [loadFails, find?_none_of_forall unlocked, found]

theorem loadFails_overlap {x : EntryNo × EntryOp} (unlocked : ∀ x ∈ w, r[x.1].locked = false)
    (entries : ∀ x ∈ w, (!entryPasses x.2) = false)
    (found : (w.find? fun x => overlapsOther (loadedTable r w) x.1) = some x) :
    loadFails r slots w = some (.badEntry, x.1) := by
  simp only [loadFails, find?_none_of_forall unlocked, find?_none_of_forall entries, found]

theorem loadFails_busy {x : EntryNo × EntryOp} (unlocked : ∀ x ∈ w, r[x.1].locked = false)
    (entries : ∀ x ∈ w, (!entryPasses x.2) = false)
    (apart : ∀ x ∈ w, overlapsOther (loadedTable r w) x.1 = false)
    (found : (w.find? fun x => geometryChange r[x.1] (loadedTable r w)[x.1] && spanBusy slots r[x.1]) = some x) :
    loadFails r slots w = some (.rangeBusy, x.1) := by
  simp only [loadFails, find?_none_of_forall unlocked, find?_none_of_forall entries, find?_none_of_forall apart,
    found]

theorem loadFails_none (unlocked : ∀ x ∈ w, r[x.1].locked = false)
    (entries : ∀ x ∈ w, (!entryPasses x.2) = false)
    (apart : ∀ x ∈ w, overlapsOther (loadedTable r w) x.1 = false)
    (idle : ∀ x ∈ w, (geometryChange r[x.1] (loadedTable r w)[x.1] && spanBusy slots r[x.1]) = false) :
    loadFails r slots w = none := by
  simp only [loadFails, find?_none_of_forall unlocked, find?_none_of_forall entries, find?_none_of_forall apart,
    find?_none_of_forall idle]

end

/-- Step 2 of R31 in the words of the statements (R30, R32). -/
theorem entryPasses_iff_entryFits (o : EntryOp) : entryPasses o = true ↔ EntryFits o := by
  unfold entryPasses EntryFits entryOf
  cases o.mode with
  | none => simp
  | some m =>
    cases o.order with
    | none => simp
    | some d => simp [fieldsFit, geometryFits_iff, spanSize, and_assoc, imp_iff_not_or]

/-! ### RANGES (R28 to R35) -/

/-- A load from index 15 or below that fails a check is refused with its reason and the index. -/
theorem actRanges_refuses {rx : RxFrame} {s : State} {r : Reason} {i : EntryNo}
    (first : (byteAt rx.payload 0).toNat ≤ 15)
    (fails : loadFails s.ranges s.slots (loadWindow (byteAt rx.payload 0).toNat (entryOps rx.payload)) =
      some (r, i)) :
    actRanges (received .ranges rx) s = (s, refuseWith r (some (BitVec.ofNat 8 i.val))) := by
  have payload : (received .ranges rx).payload = rx.payload := rfl
  simp only [actRanges, payload, if_neg (Nat.not_lt.mpr first), fails]
  rfl

/-- A load from index 15 or below that passes the checks is written whole. -/
theorem actRanges_loads {rx : RxFrame} {s : State} (first : (byteAt rx.payload 0).toNat ≤ 15)
    (passes : loadFails s.ranges s.slots (loadWindow (byteAt rx.payload 0).toNat (entryOps rx.payload)) = none) :
    actRanges (received .ranges rx) s =
      ({ s with ranges := loadedTable s.ranges (loadWindow (byteAt rx.payload 0).toNat (entryOps rx.payload)) },
        okWith .none) := by
  have payload : (received .ranges rx).payload = rx.payload := rfl
  simp only [actRanges, payload, if_neg (Nat.not_lt.mpr first), passes]

/-- After a load of a window without repetition whose entries pass, each place of the window holds the entry
carried for it, and every other place what it held (R29, R35). -/
theorem loadedTable_map_range {r : Tab 16 RangeEntry} {index : Nat → EntryNo} {entry : Nat → EntryOp} {n : Nat}
    (once : ∀ j < n, ∀ k < n, index j = index k → j = k) (passes : ∀ k < n, entryPasses (entry k) = true) :
    let t := loadedTable r ((List.range n).map fun k => (index k, entry k))
    (∀ k < n, entryOf (entry k) = some t[index k]) ∧ ∀ i : EntryNo, (∀ k < n, i ≠ index k) → t[i] = r[i] := by
  intro t
  have place := loadedTable_cases (w := (List.range n).map fun k => (index k, entry k))
    (by simpa using fun k inside => isSome_entryOf (passes k inside)) r
  simp only [List.mem_map, List.mem_range, forall_exists_index, and_imp, forall_apply_eq_imp_iff₂,
    exists_exists_and_eq_and] at place
  refine ⟨fun k inside => ?_, fun i outside => ?_⟩
  · rcases place (index k) with ⟨others, -⟩ | ⟨j, inside', same, value⟩
    · exact absurd rfl (others k inside)
    · obtain rfl := once j inside' k inside same
      exact value
  · rcases place i with ⟨-, same⟩ | ⟨k, inside, same, -⟩
    · exact same
    · exact absurd same.symm (outside k inside)

/-- Settles O27: each check in the words of the statements, at the first place of the window where it fails. -/
theorem rangesLoadedWholeOrNotAtAll : Obligations.RangesLoadedWholeOrNotAtAll := by
  intro rx s actedOn stands first n entry index after locked bad overlaps busy named
  have window : loadWindow first (entryOps rx.payload) = (List.range n).map fun k => (index k, entry k) :=
    loadWindow_entryOps first rx.payload
  have passes {check : EntryNo × EntryOp → Bool} {fails : Nat → Prop}
      (iff : ∀ k, check (index k, entry k) = true ↔ fails k) (h : ∀ k < n, ¬ fails k) :
      ∀ x ∈ loadWindow first (entryOps rx.payload), check x = false := by
    rw [window]
    simpa [← iff] using h
  have finds {check : EntryNo × EntryOp → Bool} {fails : Nat → Prop} {k : Nat}
      (iff : ∀ k, check (index k, entry k) = true ↔ fails k) (h : FirstFailing n fails k) :
      (loadWindow first (entryOps rx.payload)).find? check = some (index k, entry k) := by
    rw [window]
    exact find?_map_range iff h
  have refuses {r : Reason} {k : Nat} (low : first ≤ 15)
      (fails : loadFails s.ranges s.slots (loadWindow first (entryOps rx.payload)) = some (r, index k)) :
      AnsweredOnly .ranges rx r (named k) .none s :=
    answeredOnly_of_refuses actedOn rfl (actRanges_refuses low fails)
  have badIff (k : Nat) : (!entryPasses (entry k)) = true ↔ bad k := by
    rw [Bool.not_eq_true', ← Bool.not_eq_true, entryPasses_iff_entryFits]
  have entriesFit (h : ∀ j < n, ¬ bad j) : ∀ j < n, entryPasses (entry j) = true := fun j inside =>
    (entryPasses_iff_entryFits _).mpr (not_not.mp (h j inside))
  have allFit (h : ∀ j < n, ¬ bad j) : ∀ x ∈ loadWindow first (entryOps rx.payload), entryPasses x.2 = true := by
    rw [window]
    simpa using entriesFit h
  have overlapsIff (h : ∀ j < n, ¬ bad j) (k : Nat) : overlapsOther after (index k) = true ↔ overlaps k :=
    overlapsOther_iff (entryStands_loadedTable stands (allFit h) _)
  have busyIff (k : Nat) : (geometryChange s.ranges[index k] after[index k] &&
      spanBusy s.slots s.ranges[index k]) = true ↔ busy k := by
    rw [Bool.and_eq_true, geometryChange_iff, spanBusy_iff, and_assoc]
  refine ⟨fun high => ?_, fun low => ⟨fun k fails => ?_, fun h1 k fails => ?_, fun h k fails => ?_,
    fun h k fails => ?_, fun h => ?_⟩⟩
  · exact answeredOnly_of_refuses actedOn rfl (if_pos high)
  · exact refuses low (loadFails_locked (finds (fun _ => .rfl) fails))
  · exact refuses low (loadFails_badEntry (passes (fun _ => .rfl) h1) (finds badIff fails))
  · obtain ⟨h1, h2⟩ := forall₂_and.mp h
    exact refuses low (loadFails_overlap (passes (fun _ => .rfl) h1) (passes badIff h2) (finds (overlapsIff h2) fails))
  · simp only [forall₂_and] at h
    obtain ⟨h1, h2, h3⟩ := h
    exact refuses low (loadFails_busy (passes (fun _ => .rfl) h1) (passes badIff h2)
      (passes (overlapsIff h2) h3) (finds busyIff fails))
  · simp only [forall₂_and] at h
    obtain ⟨h1, h2, h3, h4⟩ := h
    have loads := loadFails_none (passes (fun _ => .rfl) h1) (passes badIff h2) (passes (overlapsIff h2) h3)
      (passes busyIff h4)
    obtain ⟨accepted, addressed, room, running⟩ := actedOn
    obtain ⟨q, d, e, answers⟩ := managementFrame_answers accepted addressed room (.inl running)
      (actRanges_loads low loads) ⟨rfl, rfl, rfl, rfl, rfl⟩
    have size : n ≤ 8 := entries_le_of_goodFrame accepted.1
    refine ⟨_, congrArg Host.Outcome.next e, rfl, answers, ?_⟩
    have written := loadedTable_map_range (r := s.ranges)
      (fun j hj k hk => windowIndex_inj (first := first) (by omega) (by omega)) (entriesFit h2)
    rwa [← window] at written

end Sys2Proof.Machine
end

section
/-! PROOFS. Management frames that free tasks, PURGE and SWEEP (O29), and TEST (O32). -/

namespace Sys2Proof.Machine

/-! ### Freeing listed tasks (R57, R60) -/

theorem leaves_iff (p : Task → Bool) (x : Task) : leaves p x = true ↔ x.state ≠ .done ∧ p x = true := by
  simp [leaves]

/-- A list after tasks are freed keeps, in order, the tags that none of them carries. -/
theorem freeListed_slots (p : Task → Bool) (s : State) (c : Channel) :
    (freeListed p s).slots[c] =
      s.slots[c].filter fun tag => !s.pool.any fun x => x.tag == tag && leaves p x := getElem_mapTab ..

/-- What freeing does to pool, lists and display records, in the words of the statements. -/
theorem freesListed_freeListed {p : Task → Bool} {q : Task → Prop} (picks : ∀ x, p x = true ↔ q x) (s : State) :
    FreesListed q s (freeListed p s) := by
  have gone (tag : Tag) : (s.pool.any fun x => x.tag == tag && leaves p x) = true ↔ Frees q s tag := by
    simp [Frees, leaves_iff, picks]
  refine ⟨fun x => ?_, fun c => ⟨?_, fun tag => ?_⟩,
    fun c => ⟨fun same => ?_, fun new rest => ?_, fun new empty => ?_⟩⟩
  · have stays (y : Task) : (!leaves p y) = true ↔ ¬ (y.state ≠ .done ∧ q y) := by
      rw [Bool.not_eq_true', ← Bool.not_eq_true, leaves_iff, picks]
    show x ∈ (s.pool.filter fun y => !leaves p y).map _ ↔ _
    simp only [List.mem_map, List.mem_filter, stays, and_assoc, eq_comm (a := x)]
    rfl
  · rw [freeListed_slots]
    exact List.filter_sublist
  · rw [freeListed_slots, List.mem_filter, Bool.not_eq_true', ← Bool.not_eq_true, gone]
  · exact (restand_disp ..).trans (if_pos same.symm)
  · refine (restand_disp ..).trans ((if_neg (Ne.symm new)).trans ?_)
    show headChange s.time s.settleUnits (freeListed p s).slots[c].isEmpty s.disp[c] = _
    rw [List.isEmpty_eq_false_iff.mpr rest]
    rfl
  · refine (restand_disp ..).trans ((if_neg (Ne.symm new)).trans ?_)
    show headChange s.time s.settleUnits (freeListed p s).slots[c].isEmpty s.disp[c] = _
    rw [empty]
    rfl

/-- A management frame whose block frees tasks and answers their number (R38, R79). -/
theorem freed_and_counted {k : Kind} {rx : RxFrame} {act : Frame → State → State × Answer} {s : State}
    {p counted : Task → Bool} {q : Task → Prop} (actedOn : ActedOn k rx s)
    (run : exec (frameCommand k rx) s = .next (managementFrame k rx act s))
    (acts : act (received k rx) s = (freeListed p s, okWith (.count (countListed p s))))
    (picks : ∀ x, p x = true ↔ q x) (counts : ∀ x, counted x = true ↔ x.state ≠ .done ∧ q x) :
    ∃ t, exec (frameCommand k rx) s = .next t ∧
      t = { s with
        pool := t.pool, slots := t.slots, disp := t.disp, beacon := t.beacon, queue := t.queue,
        downBuf := t.downBuf } ∧
      FreesListed q s t ∧ BeaconTrue t ∧ Answers k rx .ok none (.count (s.pool.countP counted)) s t := by
  have number : s.pool.countP counted = countListed p s :=
    List.countP_congr fun x _ => by rw [counts, leaves_iff, picks]
  obtain ⟨accepted, addressed, room, running⟩ := actedOn
  obtain ⟨queue, buf, e, answers⟩ :=
    managementFrame_answers accepted addressed room (.inl running) acts ⟨rfl, rfl, rfl, rfl, rfl⟩
  rw [number]
  exact ⟨_, run.trans (congrArg _ e), rfl, freesListed_freeListed picks s, beaconTrue_evalBeacon _, answers⟩

/-! ### PURGE and SWEEP (R38, R39, R78, R79) -/

/-- A PURGE of an entry of the table frees the tasks on its span (R38, R39). -/
theorem actPurge_entry {rx : RxFrame} {i : EntryNo} (hi : i.val = (byteAt rx.payload 0).toNat) (s : State) :
    actPurge (received .purge rx) s =
      (freeListed (fun x => inSpan s.ranges[i] x.channel) s,
        okWith (.count (countListed (fun x => inSpan s.ranges[i] x.channel) s))) := by
  have inside : (byteAt rx.payload 0).toNat < 16 := hi ▸ i.isLt
  obtain rfl : i = ⟨(byteAt rx.payload 0).toNat, inside⟩ := Fin.ext hi
  exact dif_pos inside

/-- A SWEEP of a lane, or of all lanes, frees their tasks (R79). -/
theorem actSweep_frees {rx : RxFrame} (named : (byteAt rx.payload 0).toNat ≤ 7 ∨ byteAt rx.payload 0 = 0xFF)
    (s : State) :
    ∃ p : Task → Bool,
      (∀ x, p x = true ↔ byteAt rx.payload 0 = 0xFF ∨ x.lane.val = (byteAt rx.payload 0).toNat) ∧
      actSweep (received .sweep rx) s = (freeListed p s, okWith (.count (countListed p s))) := by
  have payload : (received .sweep rx).payload = rx.payload := rfl
  unfold actSweep
  rw [payload]
  rcases named with lane | all
  · have one : sweepOp rx.payload = .lane ⟨(byteAt rx.payload 0).toNat, Nat.lt_succ_of_le lane⟩ :=
      dif_pos (Nat.lt_succ_of_le lane)
    have notAll : byteAt rx.payload 0 ≠ 0xFF := fun all => by simp [all] at lane
    rw [one]
    refine ⟨_, fun x => ?_, rfl⟩
    rw [beq_iff_eq, Fin.ext_iff, or_iff_right notAll]
  · have every : sweepOp rx.payload = .all := by simp [sweepOp, all]
    rw [every]
    exact ⟨_, by simp [all], rfl⟩

/-- A SWEEP that names neither a lane nor all lanes is refused (R78). -/
theorem actSweep_bad {rx : RxFrame} (above : 7 < (byteAt rx.payload 0).toNat)
    (notAll : byteAt rx.payload 0 ≠ 0xFF) (s : State) :
    actSweep (received .sweep rx) s = (s, refuseWith .badEntry (some (byteAt rx.payload 0))) := by
  have payload : (received .sweep rx).payload = rx.payload := rfl
  have bad : sweepOp rx.payload = .bad (byteAt rx.payload 0) :=
    (dif_neg (Nat.not_lt.mpr above)).trans (if_neg notAll)
  unfold actSweep
  rw [payload, bad]

/-- Settles O29. -/
theorem purgeAndSweepFreeAndCount : Obligations.PurgeAndSweepFreeAndCount := by
  refine fun rx s _ => ⟨fun actedOn => ⟨fun above => ?_, fun i hi => ?_⟩, fun actedOn =>
    ⟨fun above notAll => ?_, fun named => ?_⟩⟩
  · exact answeredOnly_of_refuses (act := actPurge) actedOn rfl (dif_neg (Nat.not_lt.mpr above))
  · exact freed_and_counted actedOn rfl (actPurge_entry hi s) (fun _ => .rfl) (by simp)
  · exact answeredOnly_of_refuses actedOn rfl (actSweep_bad above notAll s)
  · obtain ⟨p, picks, acts⟩ := actSweep_frees named s
    exact freed_and_counted actedOn rfl acts picks (by simp)

/-! ### TEST (R37, R164 to R166) -/

/-- A colour code above 6 names none (R190). -/
theorem colourOf_eq_none_iff (code : Nat) : colourOf code = none ↔ 6 < code := by
  unfold colourOf
  split <;> simp_all
  omega

/-- The locks permit a channel in the words of the statements (R37). -/
theorem testPermitted_iff (s : State) (c : Channel) : testPermitted s.ranges c = true ↔ LocksPermit s c := by
  have line (locked inside permitted : Bool) : (!(locked && inside) || permitted) = true ↔
      (locked = true → inside = true → permitted = true) := by
    cases locked <;> cases inside <;> simp
  simp only [testPermitted, List.all_eq_true, line, List.mem_finRange, forall_true_left]
  rfl

/-- The test set is of the PRESENT channels that the locks permit (R37, R165). -/
theorem mem_testSet_iff (s : State) (c : Channel) :
    c ∈ testSet s ↔ s.bus[c].presence = .present ∧ LocksPermit s c := by
  simp [testSet, State.isPresent, testPermitted_iff]

theorem nodup_testSet (s : State) : (testSet s).Nodup := nodup_channels.filter _

/-- A test that starts marks the old and the new set dirty (R94, R166). -/
theorem startTest_disp (colour : Colour) (seconds : Nat) (s : State) (c : Channel) :
    (startTest colour seconds s).disp[c] =
      if s.inTest c = true ∨ c ∈ testSet s then { s.disp[c] with dirty := true } else s.disp[c] := by
  refine (getElem_mapTab ..).trans (if_congr ?_ rfl rfl)
  simp

/-- The duration a TEST takes, clamped at 1 and 60 s (R164). -/
theorem testSeconds_eq (p : List Byte) :
    testSeconds p = if (byteAt p 1).toNat < 1 then 1 else if 60 < (byteAt p 1).toNat then 60
      else (byteAt p 1).toNat := by
  unfold testSeconds
  split_ifs <;> omega

/-- Settles O32, line by line of R164's table. -/
theorem testStartsOrReplaces : Obligations.TestStartsOrReplaces := by
  intro rx s actedOn d seconds
  have payload : (received .test rx).payload = rx.payload := rfl
  have duration : testSeconds rx.payload = seconds := testSeconds_eq rx.payload
  refine ⟨fun above => ?_, fun within held => ?_, fun colour names head guard => ?_⟩
  · refine answeredOnly_of_refuses (act := actTest) actedOn rfl ?_
    rw [actTest, payload, (colourOf_eq_none_iff _).mpr above]
  · refine answeredOnly_of_refuses (act := actTest) actedOn rfl ?_
    obtain ⟨colour, names⟩ := Option.ne_none_iff_exists'.mp
      ((colourOf_eq_none_iff _).not.mpr (Nat.not_lt.mpr within))
    rw [actTest, payload, names]
    exact if_pos ((held_iff s).mpr held)
  · have free : ¬ s.held = true := by simp [State.held, head, guard]
    have starts : actTest (received .test rx) s =
        (startTest colour seconds s, okWith (.lampTest seconds (testSet s).length)) := by
      rw [actTest, payload, names, duration]
      exact if_neg free
    obtain ⟨accepted, addressed, room, running⟩ := actedOn
    obtain ⟨q, b, e, answers⟩ :=
      managementFrame_answers accepted addressed room (.inl running) starts ⟨rfl, rfl, rfl, rfl, rfl⟩
    exact ⟨_, { colour := colour, endTime := ahead s.time (seconds * 100), set := testSet s },
      congrArg Host.Outcome.next e, rfl, rfl, rfl, nodup_testSet s, mem_testSet_iff s,
      startTest_disp colour seconds s, answers⟩

end Sys2Proof.Machine
end

section
/-! PROOFS. No command makes a record DONE but an answered POLL: what every other command does to the pool. -/

namespace Sys2Proof.Machine

/-! ### No record becomes DONE -/

/-- Every record that is DONE in t was DONE in s. -/
structure NoneConfirmed (s t : State) : Prop where
  before : ∀ y ∈ t.pool, y.state = .done → ∃ x ∈ s.pool, x.tag = y.tag ∧ x.state = .done

theorem NoneConfirmed.of_subset {s t : State} (h : ∀ y ∈ t.pool, y.state = .done → y ∈ s.pool) :
    NoneConfirmed s t := ⟨fun y mem done => ⟨y, h y mem done, rfl, done⟩⟩

theorem NoneConfirmed.of_pool {s t : State} (h : t.pool = s.pool) : NoneConfirmed s t :=
  .of_subset fun _ mem _ => h ▸ mem

theorem NoneConfirmed.refl (s : State) : NoneConfirmed s s := .of_pool rfl

theorem NoneConfirmed.trans {s t u : State} (h : NoneConfirmed s t) (k : NoneConfirmed t u) :
    NoneConfirmed s u := by
  refine ⟨fun z mem done => ?_⟩
  obtain ⟨y, mem, same, done⟩ := k.before z mem done
  obtain ⟨x, mem, same', done⟩ := h.before y mem done
  exact ⟨x, mem, same'.trans same, done⟩

/-- What leaves the pool alone after it adds nothing. -/
theorem NoneConfirmed.then_pool {s t u : State} (h : NoneConfirmed s t) (k : u.pool = t.pool) :
    NoneConfirmed s u := h.trans (.of_pool k)

/-- A change of every record that keeps its tag and its state. -/
theorem NoneConfirmed.of_map {s t : State} {f : Task → Task} (h : t.pool = s.pool.map f)
    (keeps : ∀ x, (f x).tag = x.tag ∧ (f x).state = x.state) : NoneConfirmed s t := by
  refine ⟨fun y mem done => ?_⟩
  rw [h] at mem
  obtain ⟨x, live, rfl⟩ := List.mem_map.mp mem
  exact ⟨x, live, (keeps x).1.symm, (keeps x).2 ▸ done⟩

/-- A change of the records of one tag that keeps their tag and state. -/
theorem NoneConfirmed.of_editTask {s t : State} {tag : Tag} {f : Task → Task}
    (h : t.pool = editTask tag f s.pool) (keeps : ∀ x, (f x).tag = x.tag ∧ (f x).state = x.state) :
    NoneConfirmed s t :=
  .of_map h fun x => by
    split
    · exact keeps x
    · exact ⟨rfl, rfl⟩

/-- Records only leave. -/
theorem NoneConfirmed.of_filter {s t : State} {keep : Task → Bool} (h : t.pool = s.pool.filter keep) :
    NoneConfirmed s t := .of_subset fun _ mem _ => List.mem_of_mem_filter (h ▸ mem)

/-- A fold keeps what each of its steps keeps. -/
theorem NoneConfirmed.foldl {α : Type} {f : State → α → State} (each : ∀ s x, NoneConfirmed s (f s x))
    (l : List α) (s : State) : NoneConfirmed s (l.foldl f s) := by
  induction l generalizing s with
  | nil => exact .refl s
  | cons x xs ih => exact (each s x).trans (ih (f s x))

/-- A first entry that becomes SHOWING is not DONE (R60). -/
theorem mem_of_mem_promote {slots : Tab 64 (List Tag)} {pool : List Task} {y : Task}
    (mem : y ∈ promote slots pool) (done : y.state = .done) : y ∈ pool := by
  obtain ⟨x, mem, rfl⟩ := List.mem_map.mp mem
  split at done
  · cases done
  · rwa [if_neg ‹_›]

/-! ### Task frames (R11, R12) -/

theorem postTask_noneConfirmed {x : Task} (waits : x.state = .queued) (s : State) :
    NoneConfirmed s (postTask x s) := by
  refine .of_subset fun y mem done => ?_
  rcases List.mem_append.mp (mem_of_mem_promote mem done) with older | new
  · exact older
  · rw [List.mem_singleton.mp new, waits] at done
    cases done

theorem freeListed_noneConfirmed (p : Task → Bool) (s : State) : NoneConfirmed s (freeListed p s) :=
  .of_subset fun _ mem done => List.mem_of_mem_filter (mem_of_mem_promote mem done)

@[simp] theorem passFrame_pool (k : Kind) (tag : Tag) (loc : Location) (f : Frame) (s : State) :
    (passFrame k tag loc f s).pool = s.pool := by
  unfold passFrame
  split <;> simp

theorem receiveDown_noneConfirmed {f : Frame} {act : Frame → State → State} {s : State}
    (dispatched : NoneConfirmed s (act f s)) : NoneConfirmed s (receiveDown f act s) := by
  rcases receiveDown_cases f act s with ⟨_, e⟩ | ⟨_, _, e⟩ | ⟨_, _, e⟩
  · rw [e]
    exact .of_pool rfl
  · rw [e]
    exact .of_pool rfl
  · rw [e]
    exact dispatched

theorem claimFrame_noneConfirmed {k : Kind} {tag : Tag} {loc : Location} {room : Bool}
    {act : EntryNo → Channel → State → State} {f : Frame} {s : State}
    (acts : ∀ i c, NoneConfirmed s (act i c s)) : NoneConfirmed s (claimFrame k tag loc room act f s) := by
  unfold claimFrame
  split
  · exact .of_pool (by simp)
  · split_ifs
    · exact .of_pool (by simp)
    · exact (acts ..).then_pool (relayDown_pool ..)
    · exact .of_pool (by simp)

@[simp] theorem refuseTask_pool (k : Kind) (tag : Tag) (loc : Location) (c : Channel) (r : RefuseReason)
    (s : State) : (refuseTask k tag loc c r s).pool = s.pool := offer_pool s _

theorem actPost_noneConfirmed (v : PostOp) (i : EntryNo) (c : Channel) (s : State) :
    NoneConfirmed s (actPost v i c s) := by
  unfold actPost
  split
  · exact .of_pool (by simp)
  · exact postTask_noneConfirmed rfl s

theorem walk_noneConfirmed (v : RunOp) (i : EntryNo) (fuel k left : Nat) (l : Location) (s : State) :
    NoneConfirmed s (walk v i fuel k left l s).state := by
  induction fuel generalizing k left l s with
  | zero => exact .refl s
  | succ fuel ih =>
    unfold walk
    split
    · exact .refl s
    · split
      · exact .refl s
      · exact ih ..
    · rename_i x step
      obtain ⟨-, -, -, waits⟩ := walkStep_post step
      have posted : NoneConfirmed s (postTask x s) := postTask_noneConfirmed waits s
      extract_lets s'
      split
      · exact posted
      · split
        · exact posted
        · exact posted.trans (ih ..)

theorem actRun_noneConfirmed (v : RunOp) (i : EntryNo) (c : Channel) (s : State) :
    NoneConfirmed s (actRun v i c s) := by
  unfold actRun
  split
  · exact .of_pool (by simp)
  · exact (walk_noneConfirmed ..).then_pool rfl

theorem actAmend_noneConfirmed (v : TagOp) (i : EntryNo) (c : Channel) (s : State) :
    NoneConfirmed s (actAmend v i c s) := by
  unfold actAmend
  split
  · exact .of_pool (by simp)
  · split
    · exact .of_pool (by simp)
    · split
      · exact .of_pool (by simp)
      · exact .of_editTask rfl fun _ => ⟨rfl, rfl⟩
      · exact .of_editTask rfl fun _ => ⟨rfl, rfl⟩

theorem actWithdraw_noneConfirmed (v : TagOp) (i : EntryNo) (c : Channel) (s : State) :
    NoneConfirmed s (actWithdraw v i c s) := by
  unfold actWithdraw lateWithdraw
  split
  · exact .of_pool (by simp)
  · split
    · split
      · exact .of_filter rfl
      · exact .of_pool rfl
    · exact freeListed_noneConfirmed ..
    · exact freeListed_noneConfirmed ..

theorem actRelease_noneConfirmed (v : TagOp) (i : EntryNo) (c : Channel) (s : State) :
    NoneConfirmed s (actRelease v i c s) := by
  unfold actRelease
  split
  · exact .refl s
  · split
    · exact .of_filter rfl
    · exact .of_pool (by simp)
    · exact .of_pool (by simp)

/-! ### Management frames (R13) -/

theorem answerFrame_noneConfirmed {k : Kind} {act : State → State × Answer} {s : State}
    (acts : NoneConfirmed s (act s).1) : NoneConfirmed s (answerFrame k act s) := by
  unfold answerFrame
  split_ifs
  · exact .of_pool rfl
  · exact acts.then_pool rfl
  · exact .refl s

theorem managementFrame_noneConfirmed {k : Kind} {rx : RxFrame} {act : Frame → State → State × Answer}
    {s : State} (acts : ∀ f, NoneConfirmed s (act f s).1) : NoneConfirmed s (managementFrame k rx act s) := by
  refine receiveDown_noneConfirmed ?_
  have answered := answerFrame_noneConfirmed (k := k) (acts (frameOf (kindCode k) rx))
  unfold dispatchManagement
  split
  · exact answered
  · exact answered.then_pool (by simp)
  · exact .of_pool (by simp)

theorem actLanes_pool (f : Frame) (s : State) : (actLanes f s).1.pool = s.pool := by
  unfold actLanes
  extract_lets first w
  split
  · rfl
  · split
    · rfl
    · split <;> rfl

theorem actRanges_pool (f : Frame) (s : State) : (actRanges f s).1.pool = s.pool := by
  rcases actRanges_cases f s with e | ⟨_, _, e⟩ <;> rw [e]

theorem actLock_pool (f : Frame) (s : State) : (actLock f s).1.pool = s.pool := by
  rcases actLock_cases f s with e | e <;> rw [e]

theorem actHold_pool (f : Frame) (s : State) : (actHold f s).1.pool = s.pool := by
  unfold actHold
  split <;> simp

theorem actResume_pool (f : Frame) (s : State) : (actResume f s).1.pool = s.pool := by
  unfold actResume
  split <;> simp

theorem actRevive_pool (f : Frame) (s : State) : (actRevive f s).1.pool = s.pool := by
  unfold actRevive
  extract_lets b forced
  split
  · extract_lets c
    cases s.presenceOf c with
    | isolated => dsimp only; split <;> rfl
    | _ => rfl
  · rfl

theorem actTest_pool (f : Frame) (s : State) : (actTest f s).1.pool = s.pool := by
  unfold actTest
  split
  · rfl
  · split <;> rfl

theorem actAskSlot_pool (f : Frame) (s : State) : (actAskSlot f s).1.pool = s.pool := by
  unfold actAskSlot
  extract_lets b
  split <;> rfl

theorem actAskTask_pool (f : Frame) (s : State) : (actAskTask f s).1.pool = s.pool := by
  unfold actAskTask
  split <;> rfl

theorem actPurge_noneConfirmed (f : Frame) (s : State) : NoneConfirmed s (actPurge f s).1 := by
  unfold actPurge
  extract_lets b
  split
  · exact freeListed_noneConfirmed ..
  · exact .refl s

theorem actSweep_noneConfirmed (f : Frame) (s : State) : NoneConfirmed s (actSweep f s).1 := by
  unfold actSweep
  split
  · exact .refl s
  · exact freeListed_noneConfirmed ..
  · exact freeListed_noneConfirmed ..

/-! ### The string port -/

theorem execLineBreak_noneConfirmed {p g : Bool} {s t : State} (h : execLineBreak p g s = .next t) :
    NoneConfirmed s t := by
  unfold execLineBreak at h
  split at h <;> cases h
  · exact .refl s
  · split <;> exact .of_subset nofun

theorem execBreakRelayEnd_pool {s t : State} (h : execBreakRelayEnd s = .next t) : t.pool = s.pool := by
  unfold execBreakRelayEnd at h
  split at h <;> cases h
  rfl

theorem execTerminalStatusChange_pool {p : Bool} {s t : State} (h : execTerminalStatusChange p s = .next t) :
    t.pool = s.pool := by
  unfold execTerminalStatusChange at h
  split_ifs at h <;> cases h <;> rfl

theorem countCheck_pool (lane : StringLane) (s : State) : (countCheck lane s).pool = s.pool := by
  cases lane <;> rfl

theorem countOverrun_pool (lane : StringLane) (s : State) : (countOverrun lane s).pool = s.pool := by
  cases lane <;> rfl

theorem execFrameEarlyDiscard_pool {lane : StringLane} {cause : EarlyCause} {s t : State}
    (h : execFrameEarlyDiscard lane cause s = .next t) : t.pool = s.pool := by
  cases h
  split
  · exact countCheck_pool lane s
  · rfl

theorem execDiscardedFrame_pool {lane : StringLane} {kind : Byte} {rx : RxFrame} {s t : State}
    (h : execDiscardedFrame lane kind rx s = .next t) : t.pool = s.pool := by
  rcases execDiscardedFrame_cases h with rfl | rfl | rfl
  · rfl
  · exact countCheck_pool lane s
  · exact countOverrun_pool lane s

theorem execUnknownKindFrame_noneConfirmed {kind : Byte} {rx : RxFrame} {s t : State}
    (h : execUnknownKindFrame kind rx s = .next t) : NoneConfirmed s t := by
  unfold execUnknownKindFrame at h
  split at h <;> cases h
  exact receiveDown_noneConfirmed (.of_pool (by simp))

theorem dispatchEnumerate_pool (f : Frame) (s : State) : (dispatchEnumerate f s).pool = s.pool := by
  unfold dispatchEnumerate
  extract_lets n t
  split
  · split <;> rfl
  · exact relayDown_pool t _

theorem execUpFrameAccepted_pool {kind : Byte} {rx : RxFrame} {s t : State}
    (h : execUpFrameAccepted kind rx s = .next t) : t.pool = s.pool := by
  cases h
  split
  · rfl
  · rcases receiveUp_cases (frameOf kind rx) s with ⟨_, e⟩ | ⟨_, _, e⟩ | ⟨_, _, e⟩ <;> rw [e] <;> rfl

theorem execDownRelayStart_pool {rdy : Bool} {s t : State} (h : execDownRelayStart rdy s = .next t) :
    t.pool = s.pool := by
  unfold execDownRelayStart at h
  dsimp only at h
  split at h
  · cases h
    rfl
  · split at h <;> cases h <;> rfl

theorem execDownRelayComplete_pool {s t : State} (h : execDownRelayComplete s = .next t) : t.pool = s.pool := by
  unfold execDownRelayComplete at h
  split at h <;> cases h
  rfl

theorem execUpMergeGrant_pool {rdy : Bool} {s t : State} (h : execUpMergeGrant rdy s = .next t) :
    t.pool = s.pool := by
  unfold execUpMergeGrant at h
  dsimp only at h
  split at h
  · split at h <;> cases h <;> rfl
  · cases h
    rfl

theorem execReportFrameSent_pool {s t : State} (h : execReportFrameSent s = .next t) : t.pool = s.pool := by
  unfold execReportFrameSent at h
  split at h
  · split at h <;> cases h
    rfl
  · cases h

theorem execUpRelayComplete_pool {s t : State} (h : execUpRelayComplete s = .next t) : t.pool = s.pool := by
  unfold execUpRelayComplete at h
  split at h
  · split at h <;> cases h
    rfl
  · cases h

/-! ### Timers and the GUARD line -/

theorem expireDeadline_noneConfirmed (x : Task) (s : State) : NoneConfirmed s (expireDeadline x s) :=
  .of_editTask (tag := x.tag) (f := expireTask) (by simp [expireDeadline]) fun _ => ⟨rfl, rfl⟩

@[simp] theorem expireGuard_pool (s : State) : (expireGuard s).pool = s.pool := by simp [expireGuard]

/-- The expiries an advance takes first (log 8). -/
theorem flushExpiries_noneConfirmed (s : State) : NoneConfirmed s (flushExpiries s) := by
  unfold flushExpiries
  extract_lets expired freed blinks probations tested
  have cFreed : NoneConfirmed s freed :=
    (NoneConfirmed.foldl (fun s x => expireDeadline_noneConfirmed x s) _ _).trans (.of_filter rfl)
  have cBlinks : NoneConfirmed s blinks :=
    cFreed.trans (.foldl (fun s c => .of_pool (rfl : (expireBlink c s).pool = _)) _ _)
  have cProbations : NoneConfirmed s probations :=
    cBlinks.trans (.foldl (fun s c => .of_pool (rfl : (expireProbation c s).pool = _)) _ _)
  have cTested : NoneConfirmed s tested := by
    unfold tested
    split
    · exact cProbations.then_pool rfl
    · exact cProbations
  split
  · exact cTested.then_pool (by simp)
  · exact cTested

theorem tick_noneConfirmed (s : State) : NoneConfirmed s (tick s) :=
  .of_map (f := tickTask s) rfl fun _ => ⟨rfl, rfl⟩

theorem execDeadlineExpiry_noneConfirmed {c : Channel} {s t : State} (h : execDeadlineExpiry c s = .next t) :
    NoneConfirmed s t := by
  unfold execDeadlineExpiry at h
  split at h
  · split at h <;> cases h
    exact expireDeadline_noneConfirmed ..
  · cases h

theorem execDoneHoldExpiry_noneConfirmed {tag : Tag} {s t : State} (h : execDoneHoldExpiry tag s = .next t) :
    NoneConfirmed s t := by
  unfold execDoneHoldExpiry at h
  split at h
  · split at h <;> cases h
    exact .of_filter rfl
  · cases h

theorem execWaitBlinkExpiry_pool {c : Channel} {s t : State} (h : execWaitBlinkExpiry c s = .next t) :
    t.pool = s.pool := by
  unfold execWaitBlinkExpiry at h
  split at h <;> cases h
  rfl

theorem execProbationExpiry_pool {c : Channel} {s t : State} (h : execProbationExpiry c s = .next t) :
    t.pool = s.pool := by
  unfold execProbationExpiry at h
  split at h <;> cases h
  rfl

theorem execLampTestExpiry_pool {s t : State} (h : execLampTestExpiry s = .next t) : t.pool = s.pool := by
  unfold execLampTestExpiry at h
  split at h <;> cases h
  rfl

theorem execGuardRelease_pool {s t : State} (h : execGuardRelease s = .next t) : t.pool = s.pool := by
  unfold execGuardRelease at h
  split at h
  · extract_lets u at h
    cases h
    split
    · exact expireGuard_pool u
    · rfl
  · cases h
    rfl

theorem execGuardReleaseTimerExpiry_pool {s t : State} (h : execGuardReleaseTimerExpiry s = .next t) :
    t.pool = s.pool := by
  unfold execGuardReleaseTimerExpiry at h
  split at h <;> cases h
  exact expireGuard_pool s

/-! ### The shelf bus, but for an answered POLL -/

theorem visitRunning_pool (s : State) : (visitRunning s).pool = s.pool := by
  unfold visitRunning
  split <;> rfl

theorem execVisit_pool {s t : State} (h : execVisit s = .next t) : t.pool = s.pool := by
  unfold execVisit at h
  split_ifs at h
  · cases h
    rfl
  · split at h <;> cases h
    · rfl
    · exact visitRunning_pool s

theorem execShowStart_pool {s t : State} (h : execShowStart s = .next t) : t.pool = s.pool := by
  unfold execShowStart at h
  split_ifs at h
  · cases h
    rfl
  · split at h
    · cases h
      rfl
    · split at h <;> cases h
      rfl

theorem execPollSilent_pool {s t : State} (h : execPollSilent s = .next t) : t.pool = s.pool := by
  unfold execPollSilent at h
  split at h <;> cases h
  simp

theorem showFails_pool (c : Channel) (s : State) : (showFails c s).pool = s.pool := by simp [showFails]

theorem execShowAcknowledged_pool {a : List Byte} {s t : State} (h : execShowAcknowledged a s = .next t) :
    t.pool = s.pool := by
  unfold execShowAcknowledged at h
  split at h
  · split at h <;> cases h
    · rfl
    · exact showFails_pool ..
  · cases h

theorem execShowSilent_pool {s t : State} (h : execShowSilent s = .next t) : t.pool = s.pool := by
  unfold execShowSilent at h
  split at h <;> cases h
  exact showFails_pool ..

theorem execDescribeAnswered_pool {a : List Byte} {s t : State} (h : execDescribeAnswered a s = .next t) :
    t.pool = s.pool := by
  unfold execDescribeAnswered at h
  split at h
  · split at h <;> cases h <;> simp [revived]
  · cases h

theorem execDescribeSilent_pool {s t : State} (h : execDescribeSilent s = .next t) : t.pool = s.pool := by
  unfold execDescribeSilent at h
  split at h <;> cases h
  simp

@[simp] theorem inventoryMoves_pool (c : Channel) (s : State) : (inventoryMoves c s).pool = s.pool := by
  unfold inventoryMoves
  split <;> rfl

theorem inventoryFails_pool (c : Channel) (s : State) : (inventoryFails c s).pool = s.pool := by
  unfold inventoryFails
  split <;> simp

theorem execInventoryAnswered_pool {a : List Byte} {s t : State} (h : execInventoryAnswered a s = .next t) :
    t.pool = s.pool := by
  unfold execInventoryAnswered at h
  split at h
  · split at h <;> cases h
    · simp
    · exact inventoryFails_pool ..
  · cases h

theorem execInventorySilent_pool {s t : State} (h : execInventorySilent s = .next t) : t.pool = s.pool := by
  unfold execInventorySilent at h
  split at h <;> cases h
  exact inventoryFails_pool ..

/-! ### Every command but an answered POLL -/

/-- No record becomes DONE but by an answered POLL (R59, R126). -/
theorem exec_noneConfirmed {c : Instr} {s t : State} (h : exec c s = .next t)
    (notAnswered : ∀ a, c ≠ .pollAnswered a) : NoneConfirmed s t := by
  cases c with
  | pollAnswered a => exact absurd rfl (notAnswered a)
  | powerOnReset => cases h; exact .of_subset nofun
  | lineBreak => exact execLineBreak_noneConfirmed h
  | breakRelayEnd => exact .of_pool (execBreakRelayEnd_pool h)
  | terminalStatusChange => exact .of_pool (execTerminalStatusChange_pool h)
  | frameEarlyDiscard => exact .of_pool (execFrameEarlyDiscard_pool h)
  | discardedFrame => exact .of_pool (execDiscardedFrame_pool h)
  | unknownKindFrame => exact execUnknownKindFrame_noneConfirmed h
  | upiSpacing => cases h; exact .refl s
  | post => cases h; exact receiveDown_noneConfirmed (claimFrame_noneConfirmed (actPost_noneConfirmed _ · · s))
  | run => cases h; exact receiveDown_noneConfirmed (claimFrame_noneConfirmed (actRun_noneConfirmed _ · · s))
  | amend => cases h; exact receiveDown_noneConfirmed (claimFrame_noneConfirmed (actAmend_noneConfirmed _ · · s))
  | withdraw =>
    cases h; exact receiveDown_noneConfirmed (claimFrame_noneConfirmed (actWithdraw_noneConfirmed _ · · s))
  | release =>
    cases h; exact receiveDown_noneConfirmed (claimFrame_noneConfirmed (actRelease_noneConfirmed _ · · s))
  | enumerate => cases h; exact receiveDown_noneConfirmed (.of_pool (dispatchEnumerate_pool ..))
  | setup => cases h; exact managementFrame_noneConfirmed fun _ => .of_pool rfl
  | lanes => cases h; exact managementFrame_noneConfirmed fun f => .of_pool (actLanes_pool f s)
  | ranges => cases h; exact managementFrame_noneConfirmed fun f => .of_pool (actRanges_pool f s)
  | lock => cases h; exact managementFrame_noneConfirmed fun f => .of_pool (actLock_pool f s)
  | purge => cases h; exact managementFrame_noneConfirmed (actPurge_noneConfirmed · s)
  | sweep => cases h; exact managementFrame_noneConfirmed (actSweep_noneConfirmed · s)
  | hold => cases h; exact managementFrame_noneConfirmed fun f => .of_pool (actHold_pool f s)
  | resume => cases h; exact managementFrame_noneConfirmed fun f => .of_pool (actResume_pool f s)
  | revive => cases h; exact managementFrame_noneConfirmed fun f => .of_pool (actRevive_pool f s)
  | test => cases h; exact managementFrame_noneConfirmed fun f => .of_pool (actTest_pool f s)
  | askStatus => cases h; exact managementFrame_noneConfirmed fun _ => .of_pool rfl
  | askSlot => cases h; exact managementFrame_noneConfirmed fun f => .of_pool (actAskSlot_pool f s)
  | askTask => cases h; exact managementFrame_noneConfirmed fun f => .of_pool (actAskTask_pool f s)
  | upFrameAccepted => exact .of_pool (execUpFrameAccepted_pool h)
  | downRelayStart => exact .of_pool (execDownRelayStart_pool h)
  | downRelayComplete => exact .of_pool (execDownRelayComplete_pool h)
  | upMergeGrant => exact .of_pool (execUpMergeGrant_pool h)
  | reportFrameSent => exact .of_pool (execReportFrameSent_pool h)
  | upRelayComplete => exact .of_pool (execUpRelayComplete_pool h)
  | timeAdvance => cases h; exact (flushExpiries_noneConfirmed s).trans (tick_noneConfirmed _)
  | deadlineExpiry => exact execDeadlineExpiry_noneConfirmed h
  | doneHoldExpiry => exact execDoneHoldExpiry_noneConfirmed h
  | waitBlinkExpiry => exact .of_pool (execWaitBlinkExpiry_pool h)
  | probationExpiry => exact .of_pool (execProbationExpiry_pool h)
  | lampTestExpiry => exact .of_pool (execLampTestExpiry_pool h)
  | guardAssertion => cases h; exact .of_pool (by simp)
  | guardRelease => exact .of_pool (execGuardRelease_pool h)
  | guardReleaseTimerExpiry => exact .of_pool (execGuardReleaseTimerExpiry_pool h)
  | visit => exact .of_pool (execVisit_pool h)
  | showStart => exact .of_pool (execShowStart_pool h)
  | pollSilent => exact .of_pool (execPollSilent_pool h)
  | showAcknowledged => exact .of_pool (execShowAcknowledged_pool h)
  | showSilent => exact .of_pool (execShowSilent_pool h)
  | describeAnswered => exact .of_pool (execDescribeAnswered_pool h)
  | describeSilent => exact .of_pool (execDescribeSilent_pool h)
  | inventoryAnswered => exact .of_pool (execInventoryAnswered_pool h)
  | inventorySilent => exact .of_pool (execInventorySilent_pool h)

end Sys2Proof.Machine
end

section
/-! PROOFS. An answered POLL, and O3: a record becomes DONE only through a taken confirm press. -/

namespace Sys2Proof.Machine

/-! ### An answered POLL (R117, R118, R121) -/

/-- A good POLL answer and the key levels it carries, in the words of the statements (R137, R192). -/
theorem pollKeys_eq_some_iff (c : Channel) (a : List Byte) (confirm adjust : KeyLevel) :
    pollKeys c a = some (confirm, adjust) ↔
      GoodAnswer 0 1 c a ∧ confirm = levelIn a 0 ∧ adjust = levelIn a 1 := by
  have address : addressByte (.poll c) = BitVec.ofNat 8 (64 * 0 + c.val) := by
    simp [addressByte, exchangeCode, exchangeChannel, channelByte, byteOf]
  have inner : byteAt ((a.drop 1).take 1) 0 = byteAt a 1 := by
    rcases a with _ | ⟨_, _ | ⟨_, _⟩⟩ <;> rfl
  unfold pollKeys answerInner GoodAnswer levelIn
  rw [address]
  split
  · rename_i good
    rw [Option.map_some, inner, Option.some_inj, Prod.mk.injEq]
    exact ⟨fun ⟨first, second⟩ => ⟨good, first.symm, second.symm⟩,
      fun ⟨_, first, second⟩ => ⟨first.symm, second.symm⟩⟩
  · rename_i bad
    exact iff_of_false nofun fun h => bad h.1

/-- What a reading does before it hands a confirm press over: both key histories, and an adjust press
(R118, R120). -/
def beforeConfirm (c : Channel) (confirm adjust : KeyLevel) (s : State) : State :=
  let read := onBus c (fun b => { b with
    confirmKey := readKey confirm b.confirmKey
    adjustKey := if hasAdjust b then readKey adjust b.adjustKey else b.adjustKey }) s
  if hasAdjust s.bus[c] && makesPress adjust s.bus[c].adjustKey then adjustPress c read else read

theorem reading_eq (c : Channel) (confirm adjust : KeyLevel) (s : State) :
    reading c confirm adjust s =
      if makesPress confirm s.bus[c].confirmKey then confirmPress c (beforeConfirm c confirm adjust s)
      else beforeConfirm c confirm adjust s := rfl

/-- What the end of the exchange, the key histories and an adjust press leave for the confirm press of the same
reading: of each task all but A and the adjusted mark, and what R121 judges the press by. -/
structure StandsForConfirm (c : Channel) (s u : State) : Prop where
  pool : ∃ f : Task → Task, u.pool = s.pool.map f ∧ ∀ x : Task, (f x).tag = x.tag ∧ (f x).state = x.state ∧
    (f x).loc = x.loc ∧ (f x).lane = x.lane ∧ (f x).q = x.q
  slots : u.slots = s.slots
  settle : u.disp[c].settleOpen = s.disp[c].settleOpen
  free : u.head = s.head ∧ u.guard = s.guard ∧ u.test = s.test
  queue : u.queue = s.queue
  report : u.segNum = s.segNum ∧ u.time = s.time

/-- An adjust press lowers A and marks the task adjusted, or does nothing (R46, R128). -/
theorem adjustPress_cases (c : Channel) (s : State) :
    adjustPress c s = s ∨ ∃ x : Task,
      adjustPress c s = onDisp c markDirty { s with pool := editTask x.tag adjustTask s.pool } := by
  unfold adjustPress
  split
  · exact .inl rfl
  · split
    · exact .inl rfl
    · split_ifs
      · exact .inl rfl
      · exact .inl rfl
      · exact .inr ⟨_, rfl⟩

/-- An adjust press leaves what stands for the confirm press. -/
theorem StandsForConfirm.adjustPress {c : Channel} {s u : State} (h : StandsForConfirm c s u) :
    StandsForConfirm c s (adjustPress c u) := by
  rcases adjustPress_cases c u with e | ⟨x, e⟩
  · rwa [e]
  · obtain ⟨⟨f, pool, keeps⟩, slots, settle, free, queue, report⟩ := h
    have marked : (updTab u.disp c markDirty)[c] = markDirty u.disp[c] := getElem_updTab_self ..
    rw [e]
    refine ⟨⟨fun y => if (f y).tag = x.tag then adjustTask (f y) else f y, ?_, fun y => ?_⟩, slots, ?_, free,
      queue, report⟩
    · show editTask x.tag adjustTask u.pool = _
      rw [pool, editTask, List.map_map]
      rfl
    · dsimp only
      split <;> exact keeps y
    · exact (congrArg DisplayRec.settleOpen marked).trans settle

theorem standsForConfirm_beforeConfirm (c : Channel) (confirm adjust : KeyLevel) (s : State) :
    StandsForConfirm c s (beforeConfirm c confirm adjust (answered c (endVisit s))) := by
  unfold beforeConfirm
  extract_lets read
  have stands : StandsForConfirm c s read :=
    { pool := ⟨id, by simp [read], fun _ => ⟨rfl, rfl, rfl, rfl, rfl⟩⟩
      slots := by simp [read]
      settle := by simp [read]
      free := by simp [read]
      queue := by simp [read]
      report := by simp [read] }
  split
  · exact stands.adjustPress
  · exact stands

/-- The SHOWING task of a channel is the live record of its first entry (R82). -/
theorem showingOf_some {s : State} {c : Channel} {x : Task} (h : showingOf s c = some x) :
    x ∈ s.pool ∧ s.slots[c].head? = some x.tag := by
  obtain ⟨tag, first, found⟩ := Option.bind_eq_some_iff.mp h
  obtain ⟨live, rfl⟩ := findTag_some found
  exact ⟨live, first⟩

/-- The case of R121 in which a confirm press is taken. -/
structure Takes (c : Channel) (x : Task) (s : State) : Prop where
  free : s.frozen = false
  shown : showingOf s c = some x
  settled : s.disp[c].settleOpen s.time = false
  room : s.queue.length + 2 ≤ 32

/-- A confirm press is taken, or leaves the pool (R121). -/
theorem confirmPress_cases (c : Channel) (s : State) :
    (confirmPress c s).pool = s.pool ∨ ∃ x, Takes c x s ∧ confirmPress c s = takeConfirm c x s := by
  unfold confirmPress
  split
  · exact .inl rfl
  · rename_i free
    split
    · exact .inl (offer_pool ..)
    · rename_i x shown
      split_ifs with open' full
      · exact .inl (offer_pool ..)
      · exact .inl rfl
      · have room : s.essentialRoom = true := by simpa using full
        exact .inr ⟨x, ⟨Bool.eq_false_of_not_eq_true free, shown, Bool.eq_false_of_not_eq_true open',
          (essentialRoom_iff s).mp room⟩, rfl⟩

/-- A record that is DONE after a taken confirm press was DONE, or is the confirmed one (R126). -/
theorem done_after_takeConfirm {c : Channel} {x y : Task} {s : State} (mem : y ∈ (takeConfirm c x s).pool)
    (done : y.state = .done) :
    y ∈ s.pool ∨ ∃ z ∈ s.pool, z.tag = x.tag ∧ y = confirmTask s.doneHoldUnits z := by
  obtain ⟨z, live, rfl⟩ := List.mem_map.mp (mem_of_mem_promote mem done)
  split
  · exact .inr ⟨z, live, ‹_›, rfl⟩
  · exact .inl live

/-- An answered POLL takes a confirm press of its channel, or no record becomes DONE. -/
theorem execPollAnswered_cases {a : List Byte} {s t : State} (h : execPollAnswered a s = .next t) :
    NoneConfirmed s t ∨ ∃ c u x, Polled c a s ∧ ConfirmPressed c a s ∧ StandsForConfirm c s u ∧ Takes c x u ∧
      t = takeConfirm c x u := by
  unfold execPollAnswered at h
  split at h
  · rename_i c asked
    split at h <;> cases h
    · rename_i confirm adjust keys
      obtain ⟨good, rfl, rfl⟩ := (pollKeys_eq_some_iff ..).mp keys
      have stands := standsForConfirm_beforeConfirm c (levelIn a 0) (levelIn a 1) s
      have kept : NoneConfirmed s (beforeConfirm c (levelIn a 0) (levelIn a 1) (answered c (endVisit s))) := by
        obtain ⟨f, same, keeps⟩ := stands.pool
        exact .of_map same fun x => ⟨(keeps x).1, (keeps x).2.1⟩
      rw [reading_eq]
      split
      · rename_i press
        have histories : (answered c (endVisit s)).bus[c].confirmKey = s.bus[c].confirmKey := by
          simp [answered, onBus]
        rw [histories, makesPress_iff] at press
        obtain ⟨settled, latest, level⟩ := press
        rcases confirmPress_cases c (beforeConfirm c (levelIn a 0) (levelIn a 1) (answered c (endVisit s))) with
          same | ⟨x, takes, e⟩
        · exact .inl (kept.then_pool same)
        · exact .inr ⟨c, _, x, ⟨asked, good⟩, ⟨level, latest, settled⟩, stands, takes, e⟩
      · exact .inl kept
    · exact .inl (.of_pool (by simp))
  · cases h

/-- Every command keeps records from becoming DONE, but for an answered POLL that takes a confirm press. -/
theorem exec_confirms {i : Instr} {s t : State} (h : exec i s = .next t) :
    NoneConfirmed s t ∨ ∃ a c u x, i = .pollAnswered a ∧ Polled c a s ∧ ConfirmPressed c a s ∧
      StandsForConfirm c s u ∧ Takes c x u ∧ t = takeConfirm c x u := by
  by_cases poll : ∃ a, i = .pollAnswered a
  · obtain ⟨a, rfl⟩ := poll
    refine (execPollAnswered_cases h).imp_right ?_
    rintro ⟨c, u, x, taken⟩
    exact ⟨a, c, u, x, rfl, taken⟩
  · exact .inl (exec_noneConfirmed h (not_exists.mp poll))

/-! ### Tasks that become DONE (R126) -/

/-- A record that was not DONE and is DONE was confirmed. -/
theorem NoneConfirmed.not_done {s t : State} (kept : NoneConfirmed s t) (lists : ListsStand s) {x y : Task}
    (live : x ∈ s.pool) (open' : x.state ≠ .done) (mem : y ∈ t.pool) (same : y.tag = x.tag) : y.state ≠ .done := by
  intro done
  obtain ⟨z, live', tag, done⟩ := kept.before y mem done
  obtain rfl : z = x := eq_of_tag_eq lists.tags live' live (tag.trans same)
  exact open' done

/-- The first entry of a list names a SHOWING record of its channel, over standing lists. -/
theorem ListsStand.showing_of_first {s : State} (lists : ListsStand s) {c : Channel} {x : Task}
    (live : x ∈ s.pool) (first : s.slots[c].head? = some x.tag) : x.channel = c ∧ x.state = .showing := by
  obtain ⟨z, live', tag, channel, open'⟩ := lists.listed c x.tag (List.mem_of_head? first)
  obtain rfl : z = x := eq_of_tag_eq lists.tags live' live tag
  subst channel
  exact ⟨rfl, (lists.first z live open').mpr first⟩

/-- Settles O3: only a taken confirm press makes a record DONE, and the press found what R121 asks. -/
theorem doneOnlyByTakenConfirmPress : Obligations.DoneOnlyByTakenConfirmPress := by
  intro i s t lists h x live open' y mem same done
  rcases exec_confirms h with kept | ⟨a, c, u, w, rfl, polled, pressed, stands, takes, rfl⟩
  · exact absurd done (kept.not_done lists live open' mem same)
  obtain ⟨⟨f, pool, keeps⟩, slots, settle, ⟨head, guard, test⟩, queue, segNum, time⟩ := stands
  have origin {z : Task} (mem : z ∈ u.pool) (tag : z.tag = x.tag) : z = f x := by
    rw [pool] at mem
    obtain ⟨x', live', rfl⟩ := List.mem_map.mp mem
    rw [eq_of_tag_eq lists.tags live' live ((keeps x').1.symm.trans tag)]
  obtain ⟨tag, state, loc, lane, quantity⟩ := keeps x
  rcases done_after_takeConfirm mem done with before | ⟨z, live', sameTag, rfl⟩
  · rw [origin before same, state] at done
    exact absurd done open'
  · obtain rfl : z = f x := origin live' same
    obtain ⟨shown, first⟩ := showingOf_some takes.shown
    obtain rfl : w = f x := origin shown (sameTag.symm.trans tag)
    rw [slots, tag] at first
    obtain ⟨rfl, showing⟩ := lists.showing_of_first live first
    have free : Free u := by simpa [Free, State.frozen, State.held, and_assoc] using takes.free
    refine ⟨showing, first, ⟨a, rfl, polled, pressed⟩, ?_, ?_, queue ▸ takes.room, ?_, rfl⟩
    · rwa [Free, head, guard, test] at free
    · rw [← settle, ← time]
      exact takes.settled
    · show (record _ _).queue = _
      rw [record_queue, stamp_eq, restand_queue, restand_segNum, restand_time, queue, segNum, time, tag, loc, lane,
        quantity]
      rfl

end Sys2Proof.Machine
end

section
/-! PROOFS. Claimed task frames that name a tag: AMEND (O22), WITHDRAW (O23) and RELEASE (O24). -/

namespace Sys2Proof.Machine

/-! ### Claimed frames (R7, R11) -/

/-- A claimed task frame is acted on and relayed marked (R7, R11). -/
theorem receiveDown_claimed {k : Kind} {rx : RxFrame} {i : EntryNo} {c : Channel} {s : State}
    {act : EntryNo → Channel → State → State} (claimed : Claimed k rx i c s) :
    receiveDown (received k rx)
        (claimFrame k (wordAt rx.payload 0) (locationAt rx.payload 2) true act) s =
      relayDown (markClaimed (received k rx)) (act i c s) := by
  obtain ⟨accepted, running, block, clear⟩ := claimed
  exact (receiveDown_received accepted).trans
    (claimFrame_claimed (ownedBy_eq_some.mpr ⟨running, block⟩) clear rfl)

theorem exec_amend_claimed {rx : RxFrame} {i : EntryNo} {c : Channel} {s : State}
    (claimed : Claimed .amend rx i c s) :
    exec (.amend rx) s =
      .next (relayDown (markClaimed (received .amend rx)) (actAmend (tagOp rx.payload) i c s)) :=
  congrArg Host.Outcome.next (receiveDown_claimed claimed)

theorem exec_withdraw_claimed {rx : RxFrame} {i : EntryNo} {c : Channel} {s : State}
    (claimed : Claimed .withdraw rx i c s) :
    exec (.withdraw rx) s =
      .next (relayDown (markClaimed (received .withdraw rx)) (actWithdraw (tagOp rx.payload) i c s)) :=
  congrArg Host.Outcome.next (receiveDown_claimed claimed)

theorem exec_release_claimed {rx : RxFrame} {i : EntryNo} {c : Channel} {s : State}
    (claimed : Claimed .release rx i c s) :
    exec (.release rx) s =
      .next (relayDown (markClaimed (received .release rx)) (actRelease (tagOp rx.payload) i c s)) :=
  congrArg Host.Outcome.next (receiveDown_claimed claimed)

/-- The marked relay of a claimed frame, after an event that leaves terminal status and down relay buffer (R7). -/
theorem relayMarked_form (k : Kind) (rx : RxFrame) {s u : State} (terminal : u.terminal = s.terminal)
    (downBuf : u.downBuf = s.downBuf) :
    ∃ d, relayDown (markClaimed (received k rx)) u = { u with downBuf := d } ∧
      RelaysMarked k rx s { u with downBuf := d } := by
  obtain ⟨relayed, relays⟩ := relayDown_form (markClaimed (received k rx)) u
  rw [Relays, terminal, downBuf] at relays
  exact ⟨_, relayed, relays⟩

/-- A claimed frame whose meaning offers one record: nothing else changes, and the frame is relayed marked
(R11, R68). -/
theorem offered_and_relayed (k : Kind) (rx : RxFrame) (b : ReportBody) (s : State) :
    ∃ q w d, relayDown (markClaimed (received k rx)) (offer b s) =
        { s with queue := q, withheld := w, downBuf := d } ∧
      Offers (placesNeeded b) b s { s with queue := q, withheld := w, downBuf := d } ∧
      RelaysMarked k rx s { s with queue := q, withheld := w, downBuf := d } := by
  obtain ⟨q, w, e, offers⟩ := offer_form b s
  rw [e]
  obtain ⟨d, relayed, marked⟩ := relayMarked_form k rx (s := s) (u := { s with queue := q, withheld := w }) rfl rfl
  exact ⟨q, w, d, relayed, offers, marked⟩

/-! ### Finding a record on its channel (R58) -/

/-- No record is found on a channel exactly when none of the channel carries the tag. -/
theorem findOn_eq_none_iff {pool : List Task} {c : Channel} {tag : Tag} :
    findOn pool c tag = none ↔ ¬ ∃ x ∈ pool, x.tag = tag ∧ x.channel = c := by
  simp [findOn, List.find?_eq_none]

/-- Where no two records share a tag, a record is the one its tag and channel find. -/
theorem findOn_of_mem {pool : List Task} (nodup : (pool.map (·.tag)).Nodup) {x : Task} {c : Channel} {tag : Tag}
    (live : x ∈ pool) (named : x.tag = tag) (here : x.channel = c) : findOn pool c tag = some x := by
  cases found : findOn pool c tag with
  | none => exact absurd ⟨x, live, named, here⟩ (findOn_eq_none_iff.mp found)
  | some y =>
    obtain ⟨live', named', -⟩ := findOn_some found
    rw [eq_of_tag_eq nodup live' live (named'.trans named.symm)]

/-! ### AMEND (R47, R69, R70) -/

/-- The refusals of an AMEND, by the first failing check (R69). -/
theorem actAmend_refuses {v : TagOp} {c : Channel} {s : State} {r : RefuseReason} (lists : ListsStand s)
    (first : (9999 < v.q ∧ r = .badQuantity) ∨
      (v.q ≤ 9999 ∧ (¬ ∃ x ∈ s.pool, x.tag = v.tag ∧ x.channel = c) ∧ r = .unknownTag) ∨
      (v.q ≤ 9999 ∧ (∃ x ∈ s.pool, x.tag = v.tag ∧ x.channel = c ∧ x.state = .done) ∧ r = .alreadyDone))
    (i : EntryNo) : actAmend v i c s = offer (.refused .amend v.tag v.loc c r) s := by
  unfold actAmend
  rcases first with ⟨above, rfl⟩ | ⟨within, unknown, rfl⟩ | ⟨within, ⟨x, live, named, here, done⟩, rfl⟩
  · exact if_pos above
  · rw [if_neg (Nat.not_lt.mpr within), findOn_eq_none_iff.mpr unknown]
    rfl
  · rw [if_neg (Nat.not_lt.mpr within), findOn_of_mem lists.tags live named here]
    dsimp only
    rw [done]
    rfl

/-- An AMEND taken: the quantities, and for a SHOWING task its channel's mark and settle window (R47, R70). -/
theorem actAmend_takes {v : TagOp} {c : Channel} {s : State} {x : Task} (lists : ListsStand s) (live : x ∈ s.pool)
    (named : x.tag = v.tag) (here : x.channel = c) (open' : x.state ≠ .done) (within : v.q ≤ 9999) (i : EntryNo) :
    actAmend v i c s =
      if x.state = .showing then
        onDisp c (fun d => startSettle s.time s.settleUnits (markDirty d))
          { s with pool := editTask v.tag (amendTask v.q) s.pool }
      else { s with pool := editTask v.tag (amendTask v.q) s.pool } := by
  unfold actAmend
  rw [if_neg (Nat.not_lt.mpr within), findOn_of_mem lists.tags live named here]
  dsimp only
  cases state : x.state with
  | queued => rfl
  | showing => rfl
  | done => exact absurd state open'

/-- A record edited by its tag, where no two records share one. -/
theorem editTask_of_mem {pool : List Task} (nodup : (pool.map (·.tag)).Nodup) {x : Task} (live : x ∈ pool)
    (f : Task → Task) : editTask x.tag f pool = pool.map fun y => if y.tag = x.tag then f x else y :=
  List.map_congr_left fun y live' => by
    split
    · rw [eq_of_tag_eq nodup live' live ‹_›]
    · rfl

/-- Settles O22: the checks, and what a taken AMEND sets. -/
theorem amendSetsTheQuantities : Obligations.AmendSetsTheQuantities := by
  intro rx i c s lists claimed v
  rw [exec_amend_claimed claimed]
  refine ⟨fun r first => ?_, fun x live named here open' within => ?_⟩
  · rw [actAmend_refuses lists first]
    obtain ⟨q, w, d, e, offers, marked⟩ := offered_and_relayed .amend rx (.refused .amend v.tag v.loc c r) s
    exact ⟨_, congrArg _ e, rfl, offers, marked⟩
  · have amended : editTask v.tag (amendTask v.q) s.pool = s.pool.map fun y => if y.tag = x.tag then
        { x with q := v.q, a := if x.adjusted = true then min x.a v.q else v.q } else y :=
      named ▸ editTask_of_mem lists.tags live _
    rw [actAmend_takes lists live named here open' within]
    split
    · rename_i showing
      obtain ⟨d, e, marked⟩ := relayMarked_form .amend rx (s := s)
        (u := onDisp c (fun d => startSettle s.time s.settleUnits (markDirty d))
          { s with pool := editTask v.tag (amendTask v.q) s.pool }) rfl rfl
      refine ⟨_, congrArg _ e, rfl, marked, amended, fun c' => (getElem_updTab ..).trans ?_⟩
      by_cases at' : c' = c
      · subst at'
        rw [if_pos rfl, if_pos ⟨rfl, showing⟩]
        rfl
      · rw [if_neg (Fin.val_ne_of_ne (Ne.symm at')), if_neg fun h => at' h.1]
        rfl
    · rename_i waiting
      obtain ⟨d, e, marked⟩ := relayMarked_form .amend rx (s := s)
        (u := { s with pool := editTask v.tag (amendTask v.q) s.pool }) rfl rfl
      exact ⟨_, congrArg _ e, rfl, marked, amended, fun c' => (if_neg fun h => waiting h.2).symm⟩

/-! ### WITHDRAW (R71, R72) -/

/-- A WITHDRAW of a QUEUED or SHOWING task frees it (R71). -/
theorem actWithdraw_frees {v : TagOp} {c : Channel} {s : State} {x : Task} (lists : ListsStand s)
    (live : x ∈ s.pool) (named : x.tag = v.tag) (here : x.channel = c) (open' : x.state ≠ .done) (i : EntryNo) :
    actWithdraw v i c s = freeListed (·.tag == v.tag) s := by
  unfold actWithdraw
  rw [findOn_of_mem lists.tags live named here]
  dsimp only
  cases state : x.state with
  | queued => rfl
  | showing => rfl
  | done => exact absurd state open'

/-- A WITHDRAW of a DONE record comes late (R72). -/
theorem actWithdraw_late {v : TagOp} {c : Channel} {s : State} {x : Task} (lists : ListsStand s)
    (live : x ∈ s.pool) (named : x.tag = v.tag) (here : x.channel = c) (done : x.state = .done) (i : EntryNo) :
    actWithdraw v i c s = lateWithdraw x s := by
  unfold actWithdraw
  rw [findOn_of_mem lists.tags live named here]
  dsimp only
  rw [done]

/-- A late WITHDRAW with essential room frees the record and takes in LATE_WITHDRAW (R72). -/
theorem lateWithdraw_room {x : Task} {s : State} {p : Nat} (room : s.queue.length + 2 ≤ 32)
    (picked : x.picked = some p) :
    lateWithdraw x s = record (.lateWithdraw x.tag x.loc x.channel x.lane x.q p) (freeDone x.tag s) := by
  rw [lateWithdraw, if_pos ((essentialRoom_iff s).mpr room), picked]
  rfl

/-- Without essential room a late WITHDRAW sets the advisory-withheld mark (R72, R175). -/
theorem lateWithdraw_full {x : Task} {s : State} (full : 32 < s.queue.length + 2) :
    lateWithdraw x s = { s with withheld := true } :=
  if_neg fun room => Nat.not_le.mpr full ((essentialRoom_iff s).mp room)

/-- The pool without the records of a tag. -/
theorem freeDone_pool (tag : Tag) (s : State) : (freeDone tag s).pool = s.pool.filter (fun y => y.tag ≠ tag) :=
  List.filter_congr fun y _ => Bool.eq_iff_iff.mpr (by simp)

/-- Settles O23, by the record's state. -/
theorem withdrawFreesTheTask : Obligations.WithdrawFreesTheTask := by
  intro rx i c s lists claimed v
  rw [exec_withdraw_claimed claimed]
  refine ⟨fun unknown => ?_, fun x live named here open' => ?_, fun x live named here done p picked => ?_⟩
  · have refuses : actWithdraw v i c s = offer (.refused .withdraw v.tag v.loc c .unknownTag) s := by
      rw [actWithdraw, findOn_eq_none_iff.mpr unknown]
      rfl
    rw [refuses]
    obtain ⟨q, w, d, e, offers, marked⟩ :=
      offered_and_relayed .withdraw rx (.refused .withdraw v.tag v.loc c .unknownTag) s
    exact ⟨_, congrArg _ e, rfl, offers, marked⟩
  · rw [actWithdraw_frees lists live named here open']
    obtain ⟨d, e, marked⟩ :=
      relayMarked_form .withdraw rx (s := s) (u := freeListed (·.tag == v.tag) s) rfl rfl
    exact ⟨_, congrArg _ e, rfl, marked, beaconTrue_evalBeacon _, freesListed_freeListed (fun _ => beq_iff_eq) s⟩
  · rw [actWithdraw_late lists live named here done]
    subst here
    rcases Nat.lt_or_ge 32 (s.queue.length + 2) with full | room
    · rw [lateWithdraw_full full]
      obtain ⟨d, e, marked⟩ := relayMarked_form .withdraw rx (s := s) (u := { s with withheld := true }) rfl rfl
      exact ⟨_, congrArg _ e, marked, fun room => absurd room (Nat.not_le.mpr full), fun _ => rfl⟩
    · rw [lateWithdraw_room room picked]
      obtain ⟨d, e, marked⟩ := relayMarked_form .withdraw rx (s := s)
        (u := record (.lateWithdraw x.tag x.loc x.channel x.lane x.q p) (freeDone x.tag s)) rfl rfl
      refine ⟨_, congrArg _ e, marked, fun _ => ⟨rfl, ?_, freeDone_pool x.tag s⟩,
        fun full => absurd room (Nat.not_le.mpr full)⟩
      show (record _ _).queue = _
      rw [record_queue, stamp_eq]
      rfl

/-! ### RELEASE (R73) -/

/-- A RELEASE of a DONE record frees it (R73). -/
theorem actRelease_frees {v : TagOp} {c : Channel} {s : State} {x : Task} (lists : ListsStand s)
    (live : x ∈ s.pool) (named : x.tag = v.tag) (here : x.channel = c) (done : x.state = .done) (i : EntryNo) :
    actRelease v i c s = freeDone v.tag s := by
  unfold actRelease
  rw [findOn_of_mem lists.tags live named here]
  dsimp only
  rw [done]

/-- A RELEASE of a QUEUED or SHOWING task is refused (R73). -/
theorem actRelease_refuses {v : TagOp} {c : Channel} {s : State} {x : Task} (lists : ListsStand s)
    (live : x ∈ s.pool) (named : x.tag = v.tag) (here : x.channel = c) (open' : x.state ≠ .done) (i : EntryNo) :
    actRelease v i c s = offer (.refused .release v.tag v.loc c .notDone) s := by
  unfold actRelease
  rw [findOn_of_mem lists.tags live named here]
  dsimp only
  cases state : x.state with
  | queued => rfl
  | showing => rfl
  | done => exact absurd state open'

/-- Settles O24, line by line of R73's table. -/
theorem releaseFreesADoneRecord : Obligations.ReleaseFreesADoneRecord := by
  intro rx i c s lists claimed v
  rw [exec_release_claimed claimed]
  have only {x y : Task} (live : x ∈ s.pool) (named : x.tag = v.tag) (live' : y ∈ s.pool)
      (named' : y.tag = v.tag) : y = x := eq_of_tag_eq lists.tags live' live (named'.trans named.symm)
  by_cases known : ∃ x ∈ s.pool, x.tag = v.tag ∧ x.channel = c
  · obtain ⟨x, live, named, here⟩ := known
    by_cases done : x.state = .done
    · rw [actRelease_frees lists live named here done]
      obtain ⟨d, e, marked⟩ := relayMarked_form .release rx (s := s) (u := freeDone v.tag s) rfl rfl
      refine ⟨_, congrArg _ e, marked, fun unknown => absurd ⟨x, live, named, here⟩ unknown, fun _ _ _ _ _ => ?_,
        fun y live' named' _ open' => absurd (only live named live' named' ▸ done) open'⟩
      rw [← freeDone_pool]
      rfl
    · rw [actRelease_refuses lists live named here done]
      obtain ⟨q, w, d, e, offers, marked⟩ :=
        offered_and_relayed .release rx (.refused .release v.tag v.loc c .notDone) s
      exact ⟨_, congrArg _ e, marked, fun unknown => absurd ⟨x, live, named, here⟩ unknown,
        fun y live' named' _ done' => absurd (only live' named' live named ▸ done') done,
        fun _ _ _ _ _ => ⟨rfl, offers⟩⟩
  · have ignores : actRelease v i c s = s := by
      rw [actRelease, findOn_eq_none_iff.mpr known]
    rw [ignores]
    obtain ⟨d, e, marked⟩ := relayMarked_form .release rx (s := s) (u := s) rfl rfl
    exact ⟨_, congrArg _ e, marked, fun _ => rfl,
      fun y live named here _ => absurd ⟨y, live, named, here⟩ known,
      fun y live named here _ => absurd ⟨y, live, named, here⟩ known⟩

end Sys2Proof.Machine
end

section
/-! PROOFS. A LANES load in the words of the statements (O26). -/

namespace Sys2Proof.Machine

/-! ### The window and its checks (R62, R63) -/

/-- The window of a LANES frame, place by place. -/
theorem laneWindow_laneOps (first : Nat) (p : List Byte) :
    laneWindow first (laneOps p) =
      (List.range (p.length - 1)).map fun k => (windowLane first k, laneOpOf (byteAt p (1 + k))) := by
  refine List.ext_getElem (by simp [laneWindow, laneOps]) fun k inside _ => ?_
  have inside : k + 1 < p.length := by simp [laneWindow, laneOps] at inside; omega
  simp [laneWindow, laneOps, byteAt, Nat.add_comm 1 k, inside]

/-- A window of at most 8 lanes names no lane twice. -/
theorem windowLane_inj {first j k : Nat} (hj : j < 8) (hk : k < 8)
    (h : windowLane first j = windowLane first k) : j = k := by
  have values : (first + j) % 8 = (first + k) % 8 := congrArg Fin.val h
  omega

/-- A LANES frame that passes R4 carries at most 8 entries (R62, R187). -/
theorem laneEntries_le_of_goodFrame {rx : RxFrame} (good : GoodFrame .lanes rx) : rx.payload.length - 1 ≤ 8 := by
  obtain ⟨-, size, -⟩ := good
  have size : 2 ≤ rx.payload.length ∧ rx.payload.length ≤ 9 := by simpa [sizeAgrees] using size
  omega

/-- A cadence code above 1 names no lane cadence (R190). -/
theorem laneCadenceOf_eq_none_iff (code : Nat) : laneCadenceOf code = none ↔ 1 < code := by
  unfold laneCadenceOf
  split <;> simp_all
  omega

/-- A lane entry is written where its codes name values (R62). -/
theorem laneEntryOf_eq_some_iff (o : LaneOp) (e : LaneEntry) :
    laneEntryOf o = some e ↔ e.enabled = o.enabled ∧ o.colour = some e.colour ∧ o.cadence = some e.cadence := by
  obtain ⟨enabled, colour, cadence⟩ := e
  unfold laneEntryOf
  cases o.colour <;> cases o.cadence <;> simp [eq_comm]

/-- An entry byte is bad where its colour or its cadence code names no value (R62). -/
theorem laneEntryOf_bad_iff (b : Byte) :
    (laneEntryOf (laneOpOf b)).isNone = true ↔ 6 < bitsOf b 4 3 ∨ 1 < bitsOf b 0 2 := by
  rw [← colourOf_eq_none_iff, ← laneCadenceOf_eq_none_iff]
  unfold laneEntryOf laneOpOf
  cases colourOf (bitsOf b 4 3) <;> cases laneCadenceOf (bitsOf b 0 2) <;> simp

/-- A lane in use would be disabled (R63). -/
theorem disablesWork_iff (pool : List Task) (n : LaneNo) (o : LaneOp) :
    (!o.enabled && laneHasWork pool n) = true ↔
      o.enabled = false ∧ ∃ x ∈ pool, x.lane.val = n.val ∧ x.state ≠ .done := by
  simp [laneHasWork, Fin.ext_iff]

/-! ### The table a load leaves (R64) -/

/-- After a load whose entries name values, a lane stands where the window does not name it, and else holds an
entry carried for it. -/
theorem loadedLanes_cases {w : List (LaneNo × LaneOp)} (named : ∀ x ∈ w, (laneEntryOf x.2).isSome = true)
    (r : Tab 8 LaneEntry) (m : LaneNo) :
    ((∀ x ∈ w, x.1 ≠ m) ∧ (loadedLanes r w)[m] = r[m]) ∨
    ∃ x ∈ w, x.1 = m ∧ laneEntryOf x.2 = some (loadedLanes r w)[m] := by
  induction w generalizing r with
  | nil => exact .inl ⟨nofun, rfl⟩
  | cons x w ih =>
    obtain ⟨first, rest⟩ := List.forall_mem_cons.mp named
    obtain ⟨e, written⟩ := Option.isSome_iff_exists.mp first
    have loads : loadedLanes r (x :: w) = loadedLanes (r.set x.1 e) w := by simp [loadedLanes, written]
    rw [loads]
    rcases ih rest (r.set x.1 e) with ⟨others, same⟩ | ⟨y, mem, place, value⟩
    · by_cases here : x.1 = m
      · subst here
        exact .inr ⟨x, List.mem_cons_self, rfl, by simpa [same] using written⟩
      · refine .inl ⟨List.forall_mem_cons.mpr ⟨here, others⟩, same.trans ?_⟩
        exact Vector.getElem_set_ne _ _ (Fin.val_ne_of_ne here)
    · exact .inr ⟨y, List.mem_cons_of_mem x mem, place, value⟩

/-- The table a LANES frame leaves, lane by lane of its window, where no entry is bad (R64). -/
theorem loadedLanes_window {r : Tab 8 LaneEntry} {first n : Nat} {entry : Nat → Byte} (size : n ≤ 8)
    (passes : ∀ k < n, (laneEntryOf (laneOpOf (entry k))).isSome = true) (m : LaneNo) :
    let t := loadedLanes r ((List.range n).map fun k => (windowLane first k, laneOpOf (entry k)))
    (∀ k < n, m = windowLane first k → laneEntryOf (laneOpOf (entry k)) = some t[m]) ∧
      ((∀ k < n, m ≠ windowLane first k) → t[m] = r[m]) := by
  intro t
  have place := loadedLanes_cases (w := (List.range n).map fun k => (windowLane first k, laneOpOf (entry k)))
    (by simpa using passes) r m
  simp only [List.mem_map, List.mem_range, forall_exists_index, and_imp, forall_apply_eq_imp_iff₂,
    exists_exists_and_eq_and] at place
  rcases place with ⟨others, same⟩ | ⟨j, inside, here, value⟩
  · exact ⟨fun k inside at' => absurd at'.symm (others k inside), fun _ => same⟩
  · refine ⟨fun k inside' at' => ?_, fun outside => absurd here.symm (outside j inside)⟩
    obtain rfl : j = k := windowLane_inj (by omega) (by omega) (here.trans at')
    exact value

/-! ### LANES (R62 to R64) -/

/-- A window from lane 7 or below with a bad entry is refused with the lane (R62). -/
theorem actLanes_badEntry {rx : RxFrame} {s : State} {x : LaneNo × LaneOp}
    (low : (byteAt rx.payload 0).toNat ≤ 7)
    (found : ((laneWindow (byteAt rx.payload 0).toNat (laneOps rx.payload)).find?
      fun x => (laneEntryOf x.2).isNone) = some x) :
    actLanes (received .lanes rx) s = (s, refuseWith .badEntry (some (BitVec.ofNat 8 x.1.val))) := by
  have payload : (received .lanes rx).payload = rx.payload := rfl
  simp only [actLanes, payload, if_neg (Nat.not_lt.mpr low), found]
  rfl

/-- A window that would disable a lane in use is refused with the lane (R63). -/
theorem actLanes_laneBusy {rx : RxFrame} {s : State} {x : LaneNo × LaneOp}
    (low : (byteAt rx.payload 0).toNat ≤ 7)
    (good : ∀ x ∈ laneWindow (byteAt rx.payload 0).toNat (laneOps rx.payload), (laneEntryOf x.2).isNone = false)
    (found : ((laneWindow (byteAt rx.payload 0).toNat (laneOps rx.payload)).find?
      fun x => !x.2.enabled && laneHasWork s.pool x.1) = some x) :
    actLanes (received .lanes rx) s = (s, refuseWith .laneBusy (some (BitVec.ofNat 8 x.1.val))) := by
  have payload : (received .lanes rx).payload = rx.payload := rfl
  simp only [actLanes, payload, if_neg (Nat.not_lt.mpr low), find?_none_of_forall good, found]
  rfl

/-- A state after its lane table is written, with the channels marked that show a changed lane (R64, R94). -/
def withLanes (new : Tab 8 LaneEntry) (s : State) : State :=
  onDisps (showsChangedLane s new) markDirty { s with lanes := new }

/-- A window that passes the checks is written whole. -/
theorem actLanes_loads {rx : RxFrame} {s : State} (low : (byteAt rx.payload 0).toNat ≤ 7)
    (good : ∀ x ∈ laneWindow (byteAt rx.payload 0).toNat (laneOps rx.payload), (laneEntryOf x.2).isNone = false)
    (idle : ∀ x ∈ laneWindow (byteAt rx.payload 0).toNat (laneOps rx.payload),
      (!x.2.enabled && laneHasWork s.pool x.1) = false) :
    actLanes (received .lanes rx) s =
      (withLanes (loadedLanes s.lanes (laneWindow (byteAt rx.payload 0).toNat (laneOps rx.payload))) s,
        okWith .none) := by
  have payload : (received .lanes rx).payload = rx.payload := rfl
  simp only [actLanes, payload, if_neg (Nat.not_lt.mpr low), find?_none_of_forall good, find?_none_of_forall idle]
  rfl

/-- A channel shows a lane whose look changed, in the words of the statements (R64). -/
theorem showsChangedLane_iff (s : State) (new : Tab 8 LaneEntry) (c : Channel) :
    showsChangedLane s new c = true ↔ ∃ x, showingOf s c = some x ∧
      (new[x.lane].colour ≠ s.lanes[x.lane].colour ∨ new[x.lane].cadence ≠ s.lanes[x.lane].cadence) := by
  unfold showsChangedLane
  cases showingOf s c with
  | none => simp
  | some x => simp [lookChanges, ne_comm]

theorem withLanes_disp (new : Tab 8 LaneEntry) (s : State) (c : Channel) :
    (withLanes new s).disp[c] =
      if showsChangedLane s new c = true then { s.disp[c] with dirty := true } else s.disp[c] := getElem_mapTab ..

/-- Settles O26: each check at the first place of the window where it fails, and the table a load leaves. -/
theorem lanesLoadedWholeOrNotAtAll : Obligations.LanesLoadedWholeOrNotAtAll := by
  intro rx s actedOn first n entry bad busy
  have window : laneWindow first (laneOps rx.payload) =
      (List.range n).map fun k => (windowLane first k, laneOpOf (entry k)) := laneWindow_laneOps first rx.payload
  have badIff (k : Nat) : (laneEntryOf (laneOpOf (entry k))).isNone = true ↔ bad k := laneEntryOf_bad_iff (entry k)
  have busyIff (k : Nat) : (!(laneOpOf (entry k)).enabled && laneHasWork s.pool (windowLane first k)) = true ↔
      busy k := disablesWork_iff s.pool (windowLane first k) (laneOpOf (entry k))
  have passes {check : LaneNo × LaneOp → Bool} {fails : Nat → Prop}
      (iff : ∀ k, check (windowLane first k, laneOpOf (entry k)) = true ↔ fails k) (h : ∀ k < n, ¬ fails k) :
      ∀ x ∈ laneWindow first (laneOps rx.payload), check x = false := by
    rw [window]
    simpa [← iff] using h
  have finds {check : LaneNo × LaneOp → Bool} {fails : Nat → Prop} {k : Nat}
      (iff : ∀ k, check (windowLane first k, laneOpOf (entry k)) = true ↔ fails k) (h : FirstFailing n fails k) :
      (laneWindow first (laneOps rx.payload)).find? check = some (windowLane first k, laneOpOf (entry k)) := by
    rw [window]
    exact find?_map_range iff h
  refine ⟨fun high => ?_, fun low k fails => ?_, fun low good k fails => ?_, fun low h => ?_⟩
  · exact answeredOnly_of_refuses (act := actLanes) actedOn rfl (if_pos high)
  · exact answeredOnly_of_refuses actedOn rfl (actLanes_badEntry low (finds badIff fails))
  · exact answeredOnly_of_refuses actedOn rfl (actLanes_laneBusy low (passes badIff good) (finds busyIff fails))
  · obtain ⟨good, idle⟩ := forall₂_and.mp h
    obtain ⟨accepted, addressed, room, running⟩ := actedOn
    obtain ⟨q, d, e, answers⟩ := managementFrame_answers accepted addressed room (.inl running)
      (actLanes_loads low (passes badIff good) (passes busyIff idle)) ⟨rfl, rfl, rfl, rfl, rfl⟩
    have named (k : Nat) (inside : k < n) : (laneEntryOf (laneOpOf (entry k))).isSome = true := by
      simpa [← badIff, Option.isSome_iff_ne_none] using good k inside
    refine ⟨_, congrArg Host.Outcome.next e, rfl, answers, fun m => ?_, fun c => ?_⟩
    · obtain ⟨written, stands⟩ :=
        loadedLanes_window (r := s.lanes) (first := first) (laneEntries_le_of_goodFrame accepted.1) named m
      rw [← window] at written stands
      refine ⟨fun k inside at' => ?_, fun outside => stands fun k inside at' => ?_⟩
      · exact (laneEntryOf_eq_some_iff ..).mp (written k inside (Fin.ext at'))
      · exact outside k inside (congrArg Fin.val at')
    · have shown := showsChangedLane_iff s (loadedLanes s.lanes (laneWindow first (laneOps rx.payload))) c
      have marked := withLanes_disp (loadedLanes s.lanes (laneWindow first (laneOps rx.payload))) s c
      exact ⟨fun shows => marked.trans (if_pos (shown.mpr shows)),
        fun stands => marked.trans (if_neg (shown.not.mpr stands))⟩

end Sys2Proof.Machine
end

section
/-! PROOFS. What the invariant of the shelf bus reads of a state, channel by channel and for the exchange in flight,
and the operations and commands that leave all of it standing. -/

namespace Sys2Proof.Machine

/-! ### BusStand in parts -/

/-- What BusStand says of one channel: an ABSENT one has an empty list, only a PRESENT one has content, key
histories and probation, and a PRESENT one has capabilities (R86, R98, R119, R139, R143). -/
structure ChannelStands (b : BusRec) (sent : Option Content) (list : List Tag) : Prop where
  absentEmpty : b.presence = .absent → list = []
  notPresent : b.presence ≠ .present →
    sent = none ∧ b.confirmKey = .unknown ∧ b.adjustKey = .unknown ∧ b.probation = none
  present : b.presence = .present → b.caps.isSome = true

/-- The channel stands in the state. -/
def ChannelStandsIn (s : State) (c : Channel) : Prop := ChannelStands s.bus[c] s.disp[c].lastSent s.slots[c]

/-- What BusStand says of an exchange in flight (R137, R140, R151). -/
def ExchangeFits (s : State) : Exchange → Prop
  | .poll c => s.bus[c].presence = .present ∧ s.ctrl = .running
  | .describe c => s.bus[c].presence = .reviving ∧ s.ctrl = .running
  | .inventory c => c = s.inventory ∧ s.ctrl = .starting
  | .display c _ => s.bus[c].presence = .present

/-- While STARTING, the channels that the inventory has not passed are ABSENT (R151). -/
def InventoryStands (s : State) : Prop :=
  s.ctrl = .starting → ∀ c : Channel, s.inventory ≤ c → s.bus[c].presence = .absent

theorem BusStand.of_parts {s : State} (channels : ∀ c, ChannelStandsIn s c) (starting : InventoryStands s)
    (fits : ∀ x, s.exchange = some x → ExchangeFits s x) : BusStand s where
  absentEmpty := fun c => (channels c).absentEmpty
  notPresent := fun c => (channels c).notPresent
  present := fun c => (channels c).present
  starting := starting
  polled := fun c => fits (.poll c)
  describing := fun c => fits (.describe c)
  inventoried := fun c => fits (.inventory c)
  shown := fun c k => fits (.display c k)

theorem BusStand.channel {s : State} (q : BusStand s) (c : Channel) : ChannelStandsIn s c :=
  ⟨q.absentEmpty c, q.notPresent c, q.present c⟩

theorem BusStand.fits {s : State} (q : BusStand s) {x : Exchange} (on : s.exchange = some x) :
    ExchangeFits s x := by
  cases x with
  | poll c => exact q.polled c on
  | describe c => exact q.describing c on
  | inventory c => exact q.inventoried c on
  | display c k => exact q.shown c k on

/-- An exchange that fits is put in flight, or the one in flight has ended (R137, R140, R141). -/
theorem BusStand.withExchange {s : State} (q : BusStand s) {x : Option Exchange}
    (fits : ∀ y, x = some y → ExchangeFits s y) (r : List Byte) (k : Channel) (n : Nat) :
    BusStand { s with exchange := x, request := r, cursor := k, batchLeft := n } :=
  .of_parts q.channel q.starting fits

theorem BusStand.endExchange {s : State} (q : BusStand s) : BusStand (endExchange s) :=
  q.withExchange (x := none) (fun _ => nofun) [] s.cursor s.batchLeft

theorem BusStand.endVisit {s : State} (q : BusStand s) : BusStand (endVisit s) :=
  q.withExchange (x := none) (fun _ => nofun) [] s.cursor 4

/-! ### Operations that leave the bus standing -/

/-- Every channel that stood stands, and presence, exchange in flight and controller state are as they were. -/
structure BusKept (s t : State) : Prop where
  channels : ∀ c : Channel, ChannelStandsIn s c → ChannelStandsIn t c
  presence : ∀ c : Channel, t.bus[c].presence = s.bus[c].presence
  exchange : t.exchange = s.exchange
  ctrl : t.ctrl = s.ctrl
  inventory : t.inventory = s.inventory

theorem BusKept.busStand {s t : State} (h : BusKept s t) (q : BusStand s) : BusStand t := by
  refine .of_parts (fun c => h.channels c (q.channel c)) (fun start c passed => ?_) fun x on => ?_
  · rw [h.presence]
    exact q.starting (h.ctrl ▸ start) c (h.inventory ▸ passed)
  · have fits := q.fits (h.exchange ▸ on)
    cases x <;> simpa only [ExchangeFits, h.presence, h.ctrl, h.inventory] using fits

/-- What BusStand reads of a state. -/
def busView (s : State) :
    Tab 64 BusRec × Tab 64 DisplayRec × Tab 64 (List Tag) × Option Exchange × CtrlState × Channel :=
  (s.bus, s.disp, s.slots, s.exchange, s.ctrl, s.inventory)

theorem BusKept.of_same {s t : State} (h : busView t = busView s) : BusKept s t := by
  simp only [busView, Prod.mk.injEq] at h
  obtain ⟨bus, disp, slots, exchange, ctrl, inventory⟩ := h
  refine ⟨fun c => ?_, fun c => ?_, exchange, ctrl, inventory⟩
  · unfold ChannelStandsIn
    rw [bus, disp, slots]
    exact id
  · rw [bus]

/-- A state that agrees in what BusStand reads stands as well. -/
theorem BusStand.of_same {s t : State} (q : BusStand s) (h : busView t = busView s) : BusStand t :=
  (BusKept.of_same h).busStand q

theorem BusKept.refl (s : State) : BusKept s s := .of_same rfl

theorem BusKept.trans {s t u : State} (h : BusKept s t) (k : BusKept t u) : BusKept s u where
  channels := fun c => k.channels c ∘ h.channels c
  presence := fun c => (k.presence c).trans (h.presence c)
  exchange := k.exchange.trans h.exchange
  ctrl := k.ctrl.trans h.ctrl
  inventory := k.inventory.trans h.inventory

theorem BusKept.then_same {s t u : State} (h : BusKept s t) (same : busView u = busView t) : BusKept s u :=
  h.trans (.of_same same)

theorem BusKept.foldl {α : Type} {f : State → α → State} (each : ∀ s x, BusKept s (f s x)) (l : List α)
    (s : State) : BusKept s (l.foldl f s) := by
  induction l generalizing s with
  | nil => exact .refl s
  | cons x xs ih => exact (each s x).trans (ih (f s x))

/-- Display records and lists change, but for the content last sent and for lists of ABSENT channels. -/
theorem BusKept.of_tables {s t : State} (bus : t.bus = s.bus) (exchange : t.exchange = s.exchange)
    (ctrl : t.ctrl = s.ctrl) (inventory : t.inventory = s.inventory)
    (sent : ∀ c : Channel, t.disp[c].lastSent = s.disp[c].lastSent)
    (absent : ∀ c : Channel, s.bus[c].presence = .absent → s.slots[c] = [] → t.slots[c] = []) :
    BusKept s t where
  channels := by
    intro c stands
    unfold ChannelStandsIn
    rw [bus, sent]
    exact ⟨fun p => absent c p (stands.absentEmpty p), stands.notPresent, stands.present⟩
  presence := by simp [bus]
  exchange := exchange
  ctrl := ctrl
  inventory := inventory

/-- Display records change, but for the content last sent. -/
theorem disp_busKept {s : State} {d : Tab 64 DisplayRec}
    (sent : ∀ c : Channel, d[c].lastSent = s.disp[c].lastSent) : BusKept s { s with disp := d } :=
  .of_tables rfl rfl rfl rfl sent fun _ _ => id

theorem mapDisp_busKept {s : State} {f : Channel → DisplayRec → DisplayRec}
    (sent : ∀ c d, (f c d).lastSent = d.lastSent) : BusKept s { s with disp := mapTab s.disp f } :=
  disp_busKept fun c => by simp [sent]

/-- The display record of one channel changes, and the channel stands. -/
theorem onDisp_busKept_of_stands {s : State} {c : Channel} {f : DisplayRec → DisplayRec}
    (stands : ChannelStandsIn s c → ChannelStands s.bus[c] (f s.disp[c]).lastSent s.slots[c]) :
    BusKept s (onDisp c f s) := by
  refine ⟨fun e => ?_, fun _ => rfl, rfl, rfl, rfl⟩
  by_cases here : c = e
  · subst here
    have reads : (onDisp c f s).disp[c] = f s.disp[c] := getElem_updTab_self ..
    unfold ChannelStandsIn at stands ⊢
    rw [reads]
    exact stands
  · have reads : (onDisp c f s).disp[e] = s.disp[e] := getElem_updTab_ne s.disp here f
    unfold ChannelStandsIn
    rw [reads]
    exact id

theorem onDisp_busKept {s : State} (c : Channel) {f : DisplayRec → DisplayRec}
    (sent : ∀ d, (f d).lastSent = d.lastSent) : BusKept s (onDisp c f s) :=
  onDisp_busKept_of_stands fun stands => by rw [sent]; exact stands

theorem onDisps_busKept {s : State} (p : Channel → Bool) {f : DisplayRec → DisplayRec}
    (sent : ∀ d, (f d).lastSent = d.lastSent) : BusKept s (onDisps p f s) := by
  refine mapDisp_busKept fun c d => ?_
  split
  · exact sent d
  · rfl

theorem marks_busKept (p : Channel → Bool) (s : State) : BusKept s (onDisps p markDirty s) :=
  onDisps_busKept p fun _ => rfl

/-- The bus record of one channel changes, but for its presence. -/
theorem onBus_busKept {s : State} {c : Channel} {f : BusRec → BusRec}
    (presence : (f s.bus[c]).presence = s.bus[c].presence)
    (stands : ∀ sent l, ChannelStands s.bus[c] sent l → ChannelStands (f s.bus[c]) sent l) :
    BusKept s (onBus c f s) := by
  have both (e : Channel) : (ChannelStandsIn s e → ChannelStandsIn (onBus c f s) e) ∧
      (onBus c f s).bus[e].presence = s.bus[e].presence := by
    by_cases here : c = e
    · subst here
      have reads : (onBus c f s).bus[c] = f s.bus[c] := getElem_updTab_self ..
      rw [ChannelStandsIn, ChannelStandsIn, reads]
      exact ⟨stands _ _, presence⟩
    · have reads : (onBus c f s).bus[e] = s.bus[e] := getElem_updTab_ne s.bus here f
      rw [ChannelStandsIn, ChannelStandsIn, reads]
      exact ⟨id, rfl⟩
  exact ⟨fun e => (both e).1, fun e => (both e).2, rfl, rfl, rfl⟩

/-- The miss count is no concern of the bus invariant (R144). -/
theorem misses_busKept {s : State} (c : Channel) (n : BusRec → Nat) :
    BusKept s (onBus c (fun b => { b with misses := n b }) s) :=
  onBus_busKept rfl fun _ _ h => ⟨h.absentEmpty, h.notPresent, h.present⟩

theorem headChange_lastSent (t : Time) (n : Nat) (nowEmpty : Bool) (d : DisplayRec) :
    (headChange t n nowEmpty d).lastSent = d.lastSent := by
  cases nowEmpty <;> simp [headChange, markDirty]

/-- An event on pool and lists that fills no list of an ABSENT channel (R60, R86). -/
theorem restand_busKept {s : State} {pool : List Task} {slots : Tab 64 (List Tag)}
    (absent : ∀ c : Channel, s.bus[c].presence = .absent → s.slots[c] = [] → slots[c] = []) :
    BusKept s (restand pool slots s) := by
  refine .of_tables (by simp) (by simp) (by simp) (by simp) (fun c => ?_) absent
  rw [restand_disp]
  split
  · rfl
  · exact headChange_lastSent ..

theorem freeListed_busKept (p : Task → Bool) (s : State) : BusKept s (freeListed p s) :=
  restand_busKept fun c _ empty => by
    have empty : s.slots[c.val] = [] := empty
    simp [empty]

theorem postTask_busKept {x : Task} {s : State} (known : s.bus[x.channel].presence ≠ .absent) :
    BusKept s (postTask x s) := by
  refine restand_busKept fun c absent empty => ?_
  have other : c ≠ x.channel := by
    rintro rfl
    exact known absent
  exact (postTask_slots_ne other s).trans empty

theorem record_busKept (b : ReportBody) (s : State) : BusKept s (record b s) := .of_same rfl

theorem takeConfirm_busKept (c : Channel) (x : Task) (s : State) : BusKept s (takeConfirm c x s) := by
  refine (restand_busKept fun e _ empty => ?_).trans (record_busKept ..)
  have empty : s.slots[e.val] = [] := empty
  simp [getElem_updTab, empty]

theorem freeDone_busKept (tag : Tag) (s : State) : BusKept s (freeDone tag s) := .of_same rfl

theorem offer_busKept (b : ReportBody) (s : State) : BusKept s (offer b s) := .of_same (by simp [busView])

theorem relayDown_busKept (f : Frame) (s : State) : BusKept s (relayDown f s) := .of_same (by simp [busView])

theorem countCheck_busKept (lane : StringLane) (s : State) : BusKept s (countCheck lane s) := by
  cases lane <;> exact .of_same rfl

theorem countOverrun_busKept (lane : StringLane) (s : State) : BusKept s (countOverrun lane s) := by
  cases lane <;> exact .of_same rfl

theorem endTestByHold_busKept (s : State) : BusKept s (endTestByHold s) := by
  refine BusKept.then_same (mapDisp_busKept (f := fun c d => if s.inTest c then markDirty d else d) fun c d => ?_) rfl
  split <;> rfl

theorem endTestByExpiry_busKept (s : State) : BusKept s (endTestByExpiry s) := by
  refine BusKept.then_same (mapDisp_busKept (f := fun c d =>
    if s.inTest c then startSettle s.time s.settleUnits (markDirty d) else d) fun c d => ?_) rfl
  split
  · exact startSettle_lastSent ..
  · rfl

/-- A new hold set marks channels and starts settle windows, and may end the lamp test (R162, R163). -/
theorem setHold_busKept (h g : Bool) (s : State) : BusKept s (setHold h g s) := by
  have given : BusKept s { s with head := h, guard := g } := .of_same rfl
  unfold setHold
  split
  · exact given
  · split
    · exact given.trans (onDisps_busKept _ fun _ => startSettle_lastSent ..)
    · exact (given.trans (marks_busKept ..)).trans (endTestByHold_busKept _)

/-! ### Reception and dispatch (R4, R11, R13) -/

theorem receiveDown_busKept {f : Frame} {act : Frame → State → State} {s : State}
    (dispatched : BusKept s (act f s)) : BusKept s (receiveDown f act s) := by
  rcases receiveDown_cases f act s with ⟨_, e⟩ | ⟨_, _, e⟩ | ⟨_, _, e⟩
  · rw [e]
    exact countCheck_busKept .down s
  · rw [e]
    exact countOverrun_busKept .down s
  · rw [e]
    exact dispatched

/-- A management frame leaves the bus as it was; or, while RUNNING or for ASK STATUS, as its owning block
leaves it (R13, R179). -/
theorem managementFrame_bus (k : Kind) (rx : RxFrame) (act : Frame → State → State × Answer) (s : State) :
    BusKept s (managementFrame k rx act s) ∨
    (s.ctrl = .running ∨ k = .askStatus) ∧
      BusKept (act (received k rx) s).1 (managementFrame k rx act s) := by
  have answered : BusKept s (answerFrame k (act (received k rx)) s) ∨
      (s.ctrl = .running ∨ k = .askStatus) ∧
        BusKept (act (received k rx) s).1 (answerFrame k (act (received k rx)) s) := by
    unfold answerFrame
    split
    · split
      · exact .inl (.of_same rfl)
      · rename_i runs
        refine .inr ⟨?_, .of_same rfl⟩
        cases mode : s.ctrl with
        | running => exact .inl rfl
        | starting => exact .inr (not_not.mp fun other => runs ⟨mode, other⟩)
    · exact .inl (.refl s)
  show BusKept s (receiveDown (received k rx) (dispatchManagement k act) s) ∨
    _ ∧ BusKept _ (receiveDown (received k rx) (dispatchManagement k act) s)
  rcases receiveDown_cases (received k rx) (dispatchManagement k act) s with ⟨_, e⟩ | ⟨_, _, e⟩ | ⟨_, _, e⟩
  · rw [e]
    exact .inl (countCheck_busKept .down s)
  · rw [e]
    exact .inl (countOverrun_busKept .down s)
  · rw [e, dispatchManagement]
    split
    · exact answered
    · exact answered.imp (·.trans (relayDown_busKept ..)) (And.imp_right (·.trans (relayDown_busKept ..)))
    · exact .inl (relayDown_busKept ..)

theorem managementFrame_busKept {k : Kind} {rx : RxFrame} {act : Frame → State → State × Answer} {s : State}
    (acts : ∀ f, BusKept s (act f s).1) : BusKept s (managementFrame k rx act s) :=
  (managementFrame_bus k rx act s).elim id fun acted => (acts _).trans acted.2

theorem passFrame_busKept (k : Kind) (tag : Tag) (loc : Location) (f : Frame) (s : State) :
    BusKept s (passFrame k tag loc f s) := by
  unfold passFrame
  split
  · exact offer_busKept ..
  · exact relayDown_busKept ..

theorem claimFrame_busKept {k : Kind} {tag : Tag} {loc : Location} {room : Bool}
    {act : EntryNo → Channel → State → State} {f : Frame} {s : State}
    (acts : ∀ i c, BusKept s (act i c s)) : BusKept s (claimFrame k tag loc room act f s) := by
  unfold claimFrame
  split
  · exact passFrame_busKept ..
  · split
    · exact (offer_busKept ..).trans (relayDown_busKept ..)
    · split
      · exact (acts ..).trans (relayDown_busKept ..)
      · exact passFrame_busKept ..

/-! ### Task frames -/

/-- A POST that passes its checks finds its channel not ABSENT (R65, R86). -/
theorem known_of_postCheck {s : State} {i : EntryNo} {c : Channel} {v : PostOp}
    (passes : postCheck s i c v = none) : s.bus[c].presence ≠ .absent := by
  have all := firstFailing_eq_none.mp passes
  simp only [List.forall_mem_cons] at all
  obtain ⟨-, -, -, known, -⟩ := all
  exact beq_eq_false_iff_ne.mp known

theorem actPost_busKept (v : PostOp) (i : EntryNo) (c : Channel) (s : State) : BusKept s (actPost v i c s) := by
  unfold actPost
  split
  · exact offer_busKept ..
  · exact postTask_busKept (known_of_postCheck ‹_›)

/-- A walk posts to no ABSENT channel (R86, R107). -/
theorem known_of_walkStep {v : RunOp} {i : EntryNo} {k : Nat} {l : Location} {s : State} {x : Task}
    (h : walkStep v i k l s = .post x) : s.bus[x.channel].presence ≠ .absent := by
  unfold walkStep at h
  extract_lets c at h
  split_ifs at h with _ lost
  cases h
  exact (not_or.mp lost).1

theorem walk_busKept (v : RunOp) (i : EntryNo) (fuel k left : Nat) (l : Location) (s : State) :
    BusKept s (walk v i fuel k left l s).state := by
  induction fuel generalizing k left l s with
  | zero => exact .refl s
  | succ fuel ih =>
    unfold walk
    split
    · exact .refl s
    · split
      · exact .refl s
      · exact ih ..
    · rename_i x step
      have posted : BusKept s (postTask x s) := postTask_busKept (known_of_walkStep step)
      extract_lets s'
      split
      · exact posted
      · split
        · exact posted
        · exact posted.trans (ih ..)

theorem actRun_busKept (v : RunOp) (i : EntryNo) (c : Channel) (s : State) : BusKept s (actRun v i c s) := by
  unfold actRun
  split
  · exact offer_busKept ..
  · exact (walk_busKept ..).then_same rfl

theorem actAmend_busKept (v : TagOp) (i : EntryNo) (c : Channel) (s : State) :
    BusKept s (actAmend v i c s) := by
  have edited : BusKept s { s with pool := editTask v.tag (amendTask v.q) s.pool } := .of_same rfl
  unfold actAmend
  split
  · exact offer_busKept ..
  · split
    · exact offer_busKept ..
    · split
      · exact offer_busKept ..
      · exact edited
      · exact edited.trans (onDisp_busKept c fun _ => startSettle_lastSent ..)

theorem actWithdraw_busKept (v : TagOp) (i : EntryNo) (c : Channel) (s : State) :
    BusKept s (actWithdraw v i c s) := by
  unfold actWithdraw lateWithdraw
  split
  · exact offer_busKept ..
  · split
    · split <;> exact .of_same rfl
    · exact freeListed_busKept ..
    · exact freeListed_busKept ..

theorem actRelease_busKept (v : TagOp) (i : EntryNo) (c : Channel) (s : State) :
    BusKept s (actRelease v i c s) := by
  unfold actRelease
  split
  · exact .refl s
  · split
    · exact freeDone_busKept ..
    · exact offer_busKept ..
    · exact offer_busKept ..

/-! ### Management frames but for REVIVE -/

theorem actLanes_busKept (f : Frame) (s : State) : BusKept s (actLanes f s).1 := by
  unfold actLanes
  extract_lets first w
  split
  · exact .refl s
  · split
    · exact .refl s
    · split
      · exact .refl s
      · exact BusKept.trans (t := { s with lanes := loadedLanes s.lanes w }) (.of_same rfl) (marks_busKept ..)

theorem actRanges_busKept (f : Frame) (s : State) : BusKept s (actRanges f s).1 := by
  rcases actRanges_cases f s with e | ⟨w, _, e⟩ <;> rw [e] <;> exact .of_same rfl

theorem actLock_busKept (f : Frame) (s : State) : BusKept s (actLock f s).1 := by
  rcases actLock_cases f s with e | e <;> rw [e] <;> exact .of_same rfl

theorem actPurge_busKept (f : Frame) (s : State) : BusKept s (actPurge f s).1 := by
  unfold actPurge
  extract_lets b
  split
  · exact freeListed_busKept ..
  · exact .refl s

theorem actSweep_busKept (f : Frame) (s : State) : BusKept s (actSweep f s).1 := by
  unfold actSweep
  split
  · exact .refl s
  · exact freeListed_busKept ..
  · exact freeListed_busKept ..

theorem actHold_busKept (f : Frame) (s : State) : BusKept s (actHold f s).1 := by
  unfold actHold
  split
  · exact .refl s
  · exact setHold_busKept ..

theorem actResume_busKept (f : Frame) (s : State) : BusKept s (actResume f s).1 := by
  unfold actResume
  split
  · exact setHold_busKept ..
  · exact .refl s

theorem actTest_busKept (f : Frame) (s : State) : BusKept s (actTest f s).1 := by
  unfold actTest
  split
  · exact .refl s
  · split
    · exact .refl s
    · exact (marks_busKept ..).then_same rfl

theorem actAskSlot_busKept (f : Frame) (s : State) : BusKept s (actAskSlot f s).1 := by
  unfold actAskSlot
  extract_lets b
  split <;> exact .refl s

theorem actAskTask_busKept (f : Frame) (s : State) : BusKept s (actAskTask f s).1 := by
  unfold actAskTask
  split <;> exact .refl s

/-! ### The string port -/

theorem execLineBreak_waiting_busKept {p g : Bool} {s t : State} (waits : s.breakWait = true)
    (h : execLineBreak p g s = .next t) : BusKept s t := by
  unfold execLineBreak at h
  rw [if_pos waits] at h
  cases h
  exact .refl s

theorem dispatchEnumerate_busKept (f : Frame) (s : State) : BusKept s (dispatchEnumerate f s) := by
  unfold dispatchEnumerate
  extract_lets n t
  have numbered : BusKept s t := .of_same rfl
  split
  · split
    · exact numbered.trans (record_busKept ..)
    · exact .refl s
  · exact numbered.trans (relayDown_busKept ..)

theorem receiveUp_busKept (f : Frame) (s : State) : BusKept s (receiveUp f s) := by
  rcases receiveUp_cases f s with ⟨_, e⟩ | ⟨_, _, e⟩ | ⟨_, _, e⟩
  · rw [e]
    exact countCheck_busKept .up s
  · rw [e]
    exact countOverrun_busKept .up s
  · rw [e]
    exact .of_same rfl

/-- The commands of the two lanes, but for frames that are acted on and for breaks. -/
def isLaneCommand : Instr → Bool
  | .breakRelayEnd | .terminalStatusChange _ | .frameEarlyDiscard .. | .discardedFrame .. | .unknownKindFrame ..
  | .upiSpacing | .upFrameAccepted .. | .downRelayStart _ | .downRelayComplete | .upMergeGrant _
  | .reportFrameSent | .upRelayComplete => true
  | _ => false

theorem exec_lane_busKept {c : Instr} {s t : State} (named : isLaneCommand c = true) (h : exec c s = .next t) :
    BusKept s t := by
  cases c <;> simp only [isLaneCommand, Bool.false_eq_true] at named
  case breakRelayEnd =>
    simp only [exec, execBreakRelayEnd] at h
    split at h <;> cases h
    exact .of_same rfl
  case terminalStatusChange =>
    simp only [exec, execTerminalStatusChange] at h
    split_ifs at h <;> cases h <;> exact .of_same rfl
  case frameEarlyDiscard lane cause =>
    cases h
    split
    · exact countCheck_busKept lane s
    · exact .refl s
  case discardedFrame lane kind rx =>
    rcases execDiscardedFrame_cases h with rfl | rfl | rfl
    · exact .refl t
    · exact countCheck_busKept lane s
    · exact countOverrun_busKept lane s
  case unknownKindFrame =>
    simp only [exec, execUnknownKindFrame] at h
    split at h <;> cases h
    exact receiveDown_busKept (relayDown_busKept ..)
  case upiSpacing => cases h; exact .refl s
  case upFrameAccepted =>
    cases h
    split
    · exact .refl s
    · exact receiveUp_busKept ..
  case downRelayStart =>
    simp only [exec, execDownRelayStart] at h
    split at h
    · cases h
      exact .of_same rfl
    · split at h <;> cases h <;> exact .of_same rfl
  case downRelayComplete =>
    simp only [exec, execDownRelayComplete] at h
    split at h <;> cases h
    exact .of_same rfl
  case upMergeGrant =>
    simp only [exec, execUpMergeGrant] at h
    split at h
    · split at h <;> cases h <;> exact .of_same rfl
    · cases h
      exact .of_same rfl
  case reportFrameSent =>
    simp only [exec, execReportFrameSent] at h
    split at h
    · split at h <;> cases h
      exact .of_same rfl
    · cases h
  case upRelayComplete =>
    simp only [exec, execUpRelayComplete] at h
    split at h
    · split at h <;> cases h
      exact .of_same rfl
    · cases h

/-! ### Timers and the GUARD line -/

theorem expireDeadline_busKept (x : Task) (s : State) : BusKept s (expireDeadline x s) := by
  have edited : BusKept s { s with pool := editTask x.tag expireTask s.pool } := .of_same rfl
  have expired : BusKept s (expireRecord x s) :=
    (edited.trans (onDisp_busKept x.channel (f := markDirty) fun _ => rfl)).then_same rfl
  rw [expireDeadline_eq]
  exact expired.trans (offer_busKept ..)

theorem expireBlink_busKept (c : Channel) (s : State) : BusKept s (expireBlink c s) :=
  onDisp_busKept c fun _ => rfl

/-- Probation that is none is as any other channel's (R149). -/
theorem expireProbation_busKept (c : Channel) (s : State) : BusKept s (expireProbation c s) :=
  onBus_busKept rfl fun _ _ h => ⟨h.absentEmpty, fun p =>
    have ⟨sent, confirm, adjust, _⟩ := h.notPresent p
    ⟨sent, confirm, adjust, rfl⟩, h.present⟩

theorem expireGuard_busKept (s : State) : BusKept s (expireGuard s) :=
  BusKept.trans (t := { s with guardTimer := none }) (.of_same rfl) (setHold_busKept ..)

/-- The expiries an advance takes first (log 8). -/
theorem flushExpiries_busKept (s : State) : BusKept s (flushExpiries s) := by
  unfold flushExpiries
  extract_lets expired freed blinks probations tested
  have cFreed : BusKept s freed := (BusKept.foldl (fun s x => expireDeadline_busKept x s) _ _).then_same rfl
  have cBlinks : BusKept s blinks := cFreed.trans (.foldl (fun s c => expireBlink_busKept c s) _ _)
  have cProbations : BusKept s probations := cBlinks.trans (.foldl (fun s c => expireProbation_busKept c s) _ _)
  have cTested : BusKept s tested := by
    unfold tested
    split
    · exact cProbations.trans (endTestByExpiry_busKept _)
    · exact cProbations
  split
  · exact cTested.trans (expireGuard_busKept _)
  · exact cTested

theorem tick_busKept (s : State) : BusKept s (tick s) :=
  BusKept.then_same (mapDisp_busKept (f := fun _ d => tickDisp (s.time + 1) d) fun _ _ => rfl) rfl

theorem execDeadlineExpiry_busKept {c : Channel} {s t : State} (h : execDeadlineExpiry c s = .next t) :
    BusKept s t := by
  unfold execDeadlineExpiry at h
  split at h
  · split at h <;> cases h
    exact expireDeadline_busKept ..
  · cases h

theorem execDoneHoldExpiry_busKept {tag : Tag} {s t : State} (h : execDoneHoldExpiry tag s = .next t) :
    BusKept s t := by
  unfold execDoneHoldExpiry at h
  split at h
  · split at h <;> cases h
    exact freeDone_busKept ..
  · cases h

theorem execWaitBlinkExpiry_busKept {c : Channel} {s t : State} (h : execWaitBlinkExpiry c s = .next t) :
    BusKept s t := by
  unfold execWaitBlinkExpiry at h
  split at h <;> cases h
  exact expireBlink_busKept c s

theorem execProbationExpiry_busKept {c : Channel} {s t : State} (h : execProbationExpiry c s = .next t) :
    BusKept s t := by
  unfold execProbationExpiry at h
  split at h <;> cases h
  exact expireProbation_busKept c s

theorem execLampTestExpiry_busKept {s t : State} (h : execLampTestExpiry s = .next t) : BusKept s t := by
  unfold execLampTestExpiry at h
  split at h <;> cases h
  exact endTestByExpiry_busKept s

theorem execGuardAssertion_busKept {s t : State} (h : execGuardAssertion s = .next t) : BusKept s t := by
  have asserted : BusKept s { s with guardLine := true, guardTimer := none } := .of_same rfl
  cases h
  exact asserted.trans (setHold_busKept ..)

theorem execGuardRelease_busKept {s t : State} (h : execGuardRelease s = .next t) : BusKept s t := by
  unfold execGuardRelease at h
  split at h
  · extract_lets u at h
    have released : BusKept s u := .of_same rfl
    cases h
    split
    · exact released.trans (expireGuard_busKept u)
    · exact released
  · cases h
    exact .refl s

theorem execGuardReleaseTimerExpiry_busKept {s t : State} (h : execGuardReleaseTimerExpiry s = .next t) :
    BusKept s t := by
  unfold execGuardReleaseTimerExpiry at h
  split at h <;> cases h
  exact expireGuard_busKept s

end Sys2Proof.Machine
end

section
/-! PROOFS. The commands that change presence, capabilities, content sent or the exchange in flight keep the shelf
bus standing, as do the resets; and O59. -/

namespace Sys2Proof.Machine

/-! ### Channels that change their presence -/

/-- Nothing that BusStand reads changes but at one channel, and there it stands. -/
structure ChangesAt (c : Channel) (s t : State) : Prop where
  here : ChannelStandsIn t c
  bus : ∀ e : Channel, e ≠ c → t.bus[e] = s.bus[e]
  disp : ∀ e : Channel, e ≠ c → t.disp[e] = s.disp[e]
  slots : ∀ e : Channel, e ≠ c → t.slots[e] = s.slots[e]

/-- One channel changes while the inventory has passed it and no exchange asks it. -/
theorem BusStand.changesAt {s t : State} {c : Channel} (q : BusStand s) (h : ChangesAt c s t)
    (passed : t.ctrl = .starting → ∀ e : Channel, t.inventory ≤ e → e ≠ c ∧ s.bus[e].presence = .absent)
    (fits : ∀ x, t.exchange = some x → ExchangeFits t x) : BusStand t := by
  refine .of_parts (fun e => ?_) (fun start e ahead => ?_) fits
  · by_cases at' : e = c
    · exact at' ▸ h.here
    · rw [ChannelStandsIn, h.bus e at', h.disp e at', h.slots e at']
      exact q.channel e
  · obtain ⟨other, absent⟩ := passed start e ahead
    rw [h.bus e other]
    exact absent

/-- While STARTING, the inventory has passed every channel that is not ABSENT (R151). -/
theorem BusStand.passed {s : State} (q : BusStand s) {c : Channel} (known : s.bus[c].presence ≠ .absent)
    (start : s.ctrl = .starting) (e : Channel) (ahead : s.inventory ≤ e) :
    e ≠ c ∧ s.bus[e].presence = .absent := by
  have absent := q.starting start e ahead
  refine ⟨?_, absent⟩
  rintro rfl
  exact known absent

/-- Bus and display record of one channel change. -/
theorem changesAt_updTab {s t : State} {c : Channel} {f : BusRec → BusRec} {g : DisplayRec → DisplayRec}
    (bus : t.bus = updTab s.bus c f) (disp : t.disp = updTab s.disp c g) (slots : t.slots = s.slots)
    (stands : ChannelStands (f s.bus[c]) (g s.disp[c]).lastSent s.slots[c]) : ChangesAt c s t where
  here := by
    have reads : t.bus[c] = f s.bus[c] ∧ t.disp[c] = g s.disp[c] := by
      rw [bus, disp]
      exact ⟨getElem_updTab_self .., getElem_updTab_self ..⟩
    rw [ChannelStandsIn, reads.1, reads.2, slots]
    exact stands
  bus := fun e other => by rw [bus]; exact getElem_updTab_ne s.bus (Ne.symm other) f
  disp := fun e other => by rw [disp]; exact getElem_updTab_ne s.disp (Ne.symm other) g
  slots := fun e _ => by rw [slots]

/-- A table changed at one place by nothing is the table. -/
theorem updTab_id {n : Nat} {α : Type} (t : Tab n α) (i : Fin n) : updTab t i id = t :=
  tab_ext fun j => by simp [getElem_updTab]

/-- A channel that is neither PRESENT nor ABSENT stands without content, key histories and probation. -/
theorem channelStands_lost {b : BusRec} {list : List Tag} (known : b.presence ≠ .absent)
    (lost : b.presence ≠ .present) (keys : b.confirmKey = .unknown ∧ b.adjustKey = .unknown)
    (probation : b.probation = none) : ChannelStands b none list :=
  ⟨fun absent => absurd absent known, fun _ => ⟨rfl, keys.1, keys.2, probation⟩,
    fun present => absurd present lost⟩

/-- A channel that has answered a DESCRIBE is PRESENT with its capabilities (R139). -/
theorem channelStands_described (k : Caps) (p : Option Time) (b : BusRec) (sent : Option Content) (list : List Tag) :
    ChannelStands (described k p b) sent list :=
  ⟨nofun, fun lost => absurd rfl lost, fun _ => rfl⟩

/-- A channel not ABSENT is taken out with no exchange in flight (R145, R146). -/
theorem BusStand.takeOut {s : State} (q : BusStand s) (idle : s.exchange = none) {c : Channel}
    (known : s.bus[c].presence ≠ .absent) (isolated : Bool) : BusStand (takeOut c isolated s) := by
  refine q.changesAt (c := c) (changesAt_updTab rfl rfl rfl ?_) (q.passed known) fun x on => ?_
  · cases isolated <;> exact channelStands_lost nofun nofun ⟨rfl, rfl⟩ rfl
  · exact absurd (idle.symm.trans on) nofun

/-- A miss keeps the bus standing once its exchange has ended (R144). -/
theorem BusStand.miss {s : State} (q : BusStand s) (idle : s.exchange = none) (c : Channel) :
    BusStand (miss c s) := by
  have fails {isolated : Bool} (known : s.bus[c].presence ≠ .absent) : BusStand (failChannel c isolated s) := by
    rw [failChannel_eq]
    exact (offer_busKept ..).busStand (q.takeOut idle known isolated)
  rcases miss_cases c s with ⟨_, e⟩ | ⟨_, p, e⟩ | ⟨_, p, e⟩ | ⟨_, _, _, e⟩
  · rw [e]
    exact (misses_busKept ..).busStand q
  · rw [e]
    exact fails (by rw [p]; nofun)
  · rw [e]
    exact fails (by rw [p]; nofun)
  · rw [e]
    exact (misses_busKept ..).busStand q

/-- A revive starts while RUNNING, on a channel that no exchange in flight asks (R147). -/
theorem BusStand.startRevive {s : State} (q : BusStand s) (running : s.ctrl = .running) {c : Channel}
    (lost : s.bus[c].presence ≠ .present) (still : s.bus[c].presence ≠ .reviving) :
    BusStand (startRevive c s) := by
  have stands : ChangesAt c s (Machine.startRevive c s) := by
    obtain ⟨sent, confirm, adjust, probation⟩ := q.notPresent c lost
    refine changesAt_updTab (g := id) rfl (updTab_id ..).symm rfl ?_
    rw [id, sent]
    exact channelStands_lost nofun nofun ⟨confirm, adjust⟩ probation
  have other {e : Channel} {p : Presence} (was : s.bus[e].presence = p) (differs : s.bus[c].presence ≠ p) :
      (Machine.startRevive c s).bus[e].presence = p := by
    rw [stands.bus e (by rintro rfl; exact differs was), was]
  refine q.changesAt stands (fun start => absurd (running.symm.trans start) nofun) fun x on => ?_
  have was := q.fits on
  cases x with
  | poll e => exact ⟨other was.1 lost, running⟩
  | describe e => exact ⟨other was.1 still, running⟩
  | inventory e => exact absurd (running.symm.trans was.2) nofun
  | display e k => exact other was lost

/-- A REVIVE's block leaves the state, or starts a revive of a channel neither PRESENT nor REVIVING (R147). -/
theorem actRevive_cases (f : Frame) (s : State) :
    (actRevive f s).1 = s ∨ ∃ c : Channel, s.bus[c].presence ≠ .present ∧ s.bus[c].presence ≠ .reviving ∧
      (actRevive f s).1 = startRevive c s := by
  unfold actRevive
  extract_lets b forced
  split
  · extract_lets c
    have starts (lost : s.presenceOf c ≠ .present) (still : s.presenceOf c ≠ .reviving) :
        ∃ e : Channel, s.bus[e].presence ≠ .present ∧ s.bus[e].presence ≠ .reviving ∧
          startRevive c s = startRevive e s := ⟨c, lost, still, rfl⟩
    cases p : s.presenceOf c with
    | present => exact .inl rfl
    | reviving => exact .inl rfl
    | isolated =>
      dsimp only
      split
      · exact .inr (starts (by simp [p]) (by simp [p]))
      · exact .inl rfl
    | faulted => exact .inr (starts (by simp [p]) (by simp [p]))
    | absent => exact .inr (starts (by simp [p]) (by simp [p]))
  · exact .inl rfl

theorem BusStand.execRevive {s t : State} (q : BusStand s) {rx : RxFrame} (h : execRevive rx s = .next t) :
    BusStand t := by
  cases h
  rcases managementFrame_bus .revive rx actRevive s with kept | ⟨mode, kept⟩
  · exact kept.busStand q
  · have running : s.ctrl = .running := mode.resolve_right nofun
    rcases actRevive_cases (received .revive rx) s with e | ⟨c, lost, still, e⟩ <;> rw [e] at kept
    · exact kept.busStand q
    · exact kept.busStand (q.startRevive running lost still)

/-! ### Exchanges that start (R137, R140, R141, R151) -/

/-- A visit goes to a channel that is PRESENT or REVIVING (R140). -/
theorem presence_of_nextVisit {s : State} {c : Channel} (h : nextVisit s = some c) :
    s.bus[c].presence = .present ∨ s.bus[c].presence = .reviving := by
  simpa [nextVisit, State.presenceOf] using List.find?_some h

/-- A SHOW goes to a channel that is PRESENT and dirty (R95, R141). -/
theorem present_of_nextShow {s : State} {c : Channel} (h : nextShow s = some c) :
    s.bus[c].presence = .present ∧ s.disp[c].dirty = true := by
  simpa [nextShow, State.isPresent] using List.find?_some h

theorem isPresent_iff (s : State) (c : Channel) : s.isPresent c = true ↔ s.bus[c].presence = .present := by
  simp [State.isPresent]

theorem BusStand.visitRunning {s : State} (q : BusStand s) (running : s.ctrl = .running) :
    BusStand (visitRunning s) := by
  unfold Machine.visitRunning
  split
  · exact q
  · rename_i c next
    refine q.withExchange (fun x on => ?_) _ (c + 1) 0
    cases on
    split
    · exact ⟨(isPresent_iff s c).mp ‹_›, running⟩
    · rename_i lost
      exact ⟨(presence_of_nextVisit next).resolve_left (mt (isPresent_iff s c).mpr lost), running⟩

theorem BusStand.execVisit {s t : State} (q : BusStand s) (h : execVisit s = .next t) : BusStand t := by
  unfold Machine.execVisit at h
  split at h
  · cases h
  · split at h
    · cases h
      exact q
    · split at h <;> cases h
      · exact q.withExchange (fun x on => by cases on; exact ⟨rfl, ‹_›⟩) _ s.cursor 0
      · exact q.visitRunning ‹_›

theorem BusStand.execShowStart {s t : State} (q : BusStand s) (h : execShowStart s = .next t) : BusStand t := by
  unfold Machine.execShowStart at h
  split at h
  · cases h
  · split at h
    · cases h
      exact q
    · split at h
      · cases h
        exact q.withExchange (fun _ => q.fits) s.request s.cursor 0
      · rename_i c next
        have cleared : BusKept s (onDisp c (fun d => { d with dirty := false }) s) := onDisp_busKept c fun _ => rfl
        split at h <;> cases h
        refine (cleared.busStand q).withExchange (fun x on => ?_) _ s.cursor (s.batchLeft - 1)
        cases on
        exact (present_of_nextShow next).1

/-! ### Outcomes of exchanges -/

theorem adjustPress_busKept (c : Channel) (s : State) : BusKept s (adjustPress c s) := by
  rcases adjustPress_cases c s with e | ⟨x, e⟩ <;> rw [e]
  · exact .refl s
  · exact BusKept.trans (t := { s with pool := editTask x.tag adjustTask s.pool }) (.of_same rfl)
      (onDisp_busKept c fun _ => rfl)

theorem confirmPress_busKept (c : Channel) (s : State) : BusKept s (confirmPress c s) := by
  unfold confirmPress
  split
  · exact .refl s
  · split
    · exact offer_busKept ..
    · split
      · exact offer_busKept ..
      · split
        · exact onDisp_busKept c fun _ => rfl
        · exact takeConfirm_busKept ..

/-- A reading of a PRESENT channel: only a PRESENT one has key histories (R117, R118, R119). -/
theorem reading_busKept {c : Channel} {s : State} (present : s.bus[c].presence = .present)
    (confirm adjust : KeyLevel) : BusKept s (reading c confirm adjust s) := by
  unfold reading
  extract_lets b read adjusted
  have cRead : BusKept s read := onBus_busKept rfl fun _ _ h =>
    ⟨h.absentEmpty, fun lost => absurd present lost, h.present⟩
  have cAdjusted : BusKept s adjusted := by
    unfold adjusted
    split
    · exact cRead.trans (adjustPress_busKept c read)
    · exact cRead
  split
  · exact cAdjusted.trans (confirmPress_busKept c adjusted)
  · exact cAdjusted

theorem BusStand.execPollAnswered {s t : State} (q : BusStand s) {a : List Byte}
    (h : execPollAnswered a s = .next t) : BusStand t := by
  unfold Machine.execPollAnswered at h
  split at h
  · rename_i c polled
    split at h <;> cases h
    · have answered : BusKept (Machine.endVisit s) (answered c (Machine.endVisit s)) := misses_busKept ..
      have present : (Machine.answered c (Machine.endVisit s)).bus[c].presence = .present :=
        (answered.presence c).trans (q.polled c polled).1
      exact (answered.trans (reading_busKept present ..)).busStand q.endVisit
    · exact q.endVisit.miss rfl c
  · cases h

theorem BusStand.execPollSilent {s t : State} (q : BusStand s) (h : execPollSilent s = .next t) : BusStand t := by
  unfold Machine.execPollSilent at h
  split at h <;> cases h
  exact q.endVisit.miss rfl _

/-- A SHOW that fails leaves the content unknown (R96). -/
theorem BusStand.showFails {s : State} (q : BusStand s) (c : Channel) : BusStand (showFails c s) := by
  have unknown : BusKept (Machine.endExchange s)
      (onDisp c (fun d => { d with lastSent := none, dirty := true }) (Machine.endExchange s)) :=
    onDisp_busKept_of_stands fun h => ⟨h.absentEmpty, fun lost => ⟨rfl, (h.notPresent lost).2⟩, h.present⟩
  exact (unknown.busStand q.endExchange).miss rfl c

/-- The content of an acknowledged SHOW is that of a PRESENT channel (R96, R98). -/
theorem BusStand.execShowAcknowledged {s t : State} (q : BusStand s) {a : List Byte}
    (h : execShowAcknowledged a s = .next t) : BusStand t := by
  unfold Machine.execShowAcknowledged at h
  split at h
  · rename_i c k shown
    have present : s.bus[c].presence = .present := q.shown c k shown
    split at h <;> cases h
    · have sent : BusKept (Machine.endExchange s)
          (onDisp c (fun d => { d with lastSent := some k }) (Machine.endExchange s)) :=
        onDisp_busKept_of_stands fun h => ⟨h.absentEmpty, fun lost => absurd present lost, h.present⟩
      exact (sent.trans (misses_busKept ..)).busStand q.endExchange
    · exact q.showFails c
  · cases h

theorem BusStand.execShowSilent {s t : State} (q : BusStand s) (h : execShowSilent s = .next t) : BusStand t := by
  unfold Machine.execShowSilent at h
  split at h <;> cases h
  exact q.showFails _

/-- A successful revive, with no exchange in flight (R148). -/
theorem BusStand.revived {s : State} (q : BusStand s) (idle : s.exchange = none) {c : Channel}
    (reviving : s.bus[c].presence = .reviving) (k : Caps) : BusStand (revived c k s) := by
  unfold Machine.revived
  extract_lets present settled
  have stands : BusStand present := by
    refine q.changesAt (c := c) (changesAt_updTab (g := id) rfl (updTab_id ..).symm rfl
      (channelStands_described ..)) (q.passed (by rw [reviving]; nofun)) fun x on => ?_
    exact absurd (idle.symm.trans on) nofun
  have marked : BusKept present settled := onDisp_busKept c fun _ => startSettle_lastSent ..
  exact (marked.trans (offer_busKept ..)).busStand stands

theorem BusStand.execDescribeAnswered {s t : State} (q : BusStand s) {a : List Byte}
    (h : execDescribeAnswered a s = .next t) : BusStand t := by
  unfold Machine.execDescribeAnswered at h
  split at h
  · rename_i c describing
    split at h <;> cases h
    · exact q.endVisit.revived rfl (q.describing c describing).1 _
    · exact q.endVisit.miss rfl c
  · cases h

theorem BusStand.execDescribeSilent {s t : State} (q : BusStand s) (h : execDescribeSilent s = .next t) :
    BusStand t := by
  unfold Machine.execDescribeSilent at h
  split at h <;> cases h
  exact q.endVisit.miss rfl _

/-! ### The inventory (R151, R152) -/

/-- What the inventory leaves behind it: RUNNING, or a channel further on (R151, R152). -/
theorem inventoryMoves_passed {c : Channel} {s : State} (start : (inventoryMoves c s).ctrl = .starting)
    (e : Channel) (ahead : (inventoryMoves c s).inventory ≤ e) : s.ctrl = .starting ∧ c < e := by
  unfold inventoryMoves at start ahead
  split at start
  · cases start
  · rename_i last
    rw [if_neg last] at ahead
    have next : (c + 1).val = c.val + 1 := by
      rw [Fin.val_add]
      exact Nat.mod_eq_of_lt (by omega)
    have ahead : (c + 1).val ≤ e.val := ahead
    exact ⟨start, Fin.lt_def.mpr (by omega)⟩

theorem inventoryMoves_same (c : Channel) (s : State) :
    (inventoryMoves c s).bus = s.bus ∧ (inventoryMoves c s).disp = s.disp ∧
      (inventoryMoves c s).slots = s.slots ∧ (inventoryMoves c s).exchange = s.exchange := by
  unfold inventoryMoves
  split <;> exact ⟨rfl, rfl, rfl, rfl⟩

/-- The inventory moves on past a channel that is left ABSENT (R151). -/
theorem BusStand.inventoryMoves {s : State} (q : BusStand s) (idle : s.exchange = none) {c : Channel}
    (at' : s.inventory = c) : BusStand (inventoryMoves c s) := by
  obtain ⟨bus, disp, slots, exchange⟩ := inventoryMoves_same c s
  refine .of_parts (fun e => ?_) (fun start e ahead => ?_) fun x on => ?_
  · rw [ChannelStandsIn, bus, disp, slots]
    exact q.channel e
  · obtain ⟨started, further⟩ := inventoryMoves_passed start e ahead
    rw [bus]
    exact q.starting started e (at' ▸ further.le)
  · rw [exchange, idle] at on
    cases on

theorem BusStand.inventoryFails {s : State} (q : BusStand s) {c : Channel}
    (inventoried : s.exchange = some (.inventory c)) : BusStand (inventoryFails c s) := by
  have missed : BusStand (Machine.miss c (Machine.endVisit s)) := q.endVisit.miss rfl c
  have at' : s.inventory = c := (q.inventoried c inventoried).1.symm
  unfold Machine.inventoryFails
  split
  · exact missed
  · exact missed.inventoryMoves (by simp [Machine.endVisit, Machine.endExchange]) (by simpa using at')

theorem BusStand.execInventoryAnswered {s t : State} (q : BusStand s) {a : List Byte}
    (h : execInventoryAnswered a s = .next t) : BusStand t := by
  unfold Machine.execInventoryAnswered at h
  split at h
  · rename_i c inventoried
    split at h <;> cases h
    · rename_i k _
      obtain ⟨at', _⟩ := q.inventoried c inventoried
      obtain ⟨bus, disp, slots, exchange⟩ :=
        inventoryMoves_same c (onBus c (described k none) (Machine.endVisit s))
      refine q.changesAt (c := c) (changesAt_updTab (g := id) bus (disp.trans (updTab_id ..).symm) slots
        (channelStands_described ..)) (fun start e ahead => ?_) fun x on => ?_
      · obtain ⟨started, further⟩ := inventoryMoves_passed start e ahead
        exact ⟨further.ne', q.starting started e (at' ▸ further.le)⟩
      · rw [exchange] at on
        cases on
    · exact q.inventoryFails inventoried
  · cases h

theorem BusStand.execInventorySilent {s t : State} (q : BusStand s) (h : execInventorySilent s = .next t) :
    BusStand t := by
  unfold Machine.execInventorySilent at h
  split at h <;> cases h
  exact q.inventoryFails ‹_›

/-! ### Resets -/

/-- A string reset keeps presence and capabilities but makes REVIVING FAULTED, and clears all else (R155). -/
theorem channelStands_stringReset {b : BusRec} {sent : Option Content} {list : List Tag}
    (h : ChannelStands b sent list) : ChannelStands (busAfterStringReset b) none [] := by
  refine ⟨fun _ => rfl, fun _ => ⟨rfl, rfl, rfl, rfl⟩, fun present => ?_⟩
  have was : b.presence = .present := by
    unfold busAfterStringReset at present
    split at present
    · cases present
    · exact present
  exact h.present was

theorem BusStand.stringReset {s : State} (q : BusStand s) (running : s.ctrl = .running) (p g : Bool) :
    BusStand (stringReset p g s) := by
  refine .of_parts (fun c => ?_) (fun start => absurd (running.symm.trans start) nofun) nofun
  have empty : (Machine.stringReset p g s).slots[c] = [] := powerOn_slots p g s c
  rw [ChannelStandsIn, stringReset_bus, stringReset_disp, empty]
  exact channelStands_stringReset (q.channel c)

theorem BusStand.execLineBreak {s t : State} (q : BusStand s) {p g : Bool} (h : execLineBreak p g s = .next t) :
    BusStand t := by
  by_cases waits : s.breakWait = true
  · exact (execLineBreak_waiting_busKept waits h).busStand q
  · have ready : s.breakWait = false := Bool.eq_false_of_not_eq_true waits
    cases mode : s.ctrl with
    | running =>
      rw [execLineBreak_running ready mode] at h
      cases h
      exact (q.stringReset mode p g).of_same rfl
    | starting =>
      rw [execLineBreak_starting ready mode] at h
      cases h
      exact (busStand_powerOn p g s).of_same rfl

/-! ### Every command -/

theorem BusStand.exec {c : Instr} {s t : State} (q : BusStand s) (h : exec c s = .next t) : BusStand t := by
  cases c with
  | powerOnReset p g => cases h; exact busStand_powerOn p g s
  | lineBreak => exact q.execLineBreak h
  | breakRelayEnd | terminalStatusChange | frameEarlyDiscard | discardedFrame | unknownKindFrame | upiSpacing
  | upFrameAccepted | downRelayStart | downRelayComplete | upMergeGrant | reportFrameSent | upRelayComplete =>
    exact (exec_lane_busKept rfl h).busStand q
  | post => cases h; exact (receiveDown_busKept (claimFrame_busKept (actPost_busKept _ · · s))).busStand q
  | run => cases h; exact (receiveDown_busKept (claimFrame_busKept (actRun_busKept _ · · s))).busStand q
  | amend => cases h; exact (receiveDown_busKept (claimFrame_busKept (actAmend_busKept _ · · s))).busStand q
  | withdraw => cases h; exact (receiveDown_busKept (claimFrame_busKept (actWithdraw_busKept _ · · s))).busStand q
  | release => cases h; exact (receiveDown_busKept (claimFrame_busKept (actRelease_busKept _ · · s))).busStand q
  | enumerate => cases h; exact (receiveDown_busKept (dispatchEnumerate_busKept ..)).busStand q
  | setup => cases h; exact (managementFrame_busKept fun _ => .of_same rfl).busStand q
  | lanes => cases h; exact (managementFrame_busKept (actLanes_busKept · s)).busStand q
  | ranges => cases h; exact (managementFrame_busKept (actRanges_busKept · s)).busStand q
  | lock => cases h; exact (managementFrame_busKept (actLock_busKept · s)).busStand q
  | purge => cases h; exact (managementFrame_busKept (actPurge_busKept · s)).busStand q
  | sweep => cases h; exact (managementFrame_busKept (actSweep_busKept · s)).busStand q
  | hold => cases h; exact (managementFrame_busKept (actHold_busKept · s)).busStand q
  | resume => cases h; exact (managementFrame_busKept (actResume_busKept · s)).busStand q
  | revive => exact q.execRevive h
  | test => cases h; exact (managementFrame_busKept (actTest_busKept · s)).busStand q
  | askStatus => cases h; exact (managementFrame_busKept fun _ => .of_same rfl).busStand q
  | askSlot => cases h; exact (managementFrame_busKept (actAskSlot_busKept · s)).busStand q
  | askTask => cases h; exact (managementFrame_busKept (actAskTask_busKept · s)).busStand q
  | timeAdvance => cases h; exact ((flushExpiries_busKept s).trans (tick_busKept _)).busStand q
  | deadlineExpiry => exact (execDeadlineExpiry_busKept h).busStand q
  | doneHoldExpiry => exact (execDoneHoldExpiry_busKept h).busStand q
  | waitBlinkExpiry => exact (execWaitBlinkExpiry_busKept h).busStand q
  | probationExpiry => exact (execProbationExpiry_busKept h).busStand q
  | lampTestExpiry => exact (execLampTestExpiry_busKept h).busStand q
  | guardAssertion => exact (execGuardAssertion_busKept h).busStand q
  | guardRelease => exact (execGuardRelease_busKept h).busStand q
  | guardReleaseTimerExpiry => exact (execGuardReleaseTimerExpiry_busKept h).busStand q
  | visit => exact q.execVisit h
  | showStart => exact q.execShowStart h
  | pollAnswered => exact q.execPollAnswered h
  | pollSilent => exact q.execPollSilent h
  | showAcknowledged => exact q.execShowAcknowledged h
  | showSilent => exact q.execShowSilent h
  | describeAnswered => exact q.execDescribeAnswered h
  | describeSilent => exact q.execDescribeSilent h
  | inventoryAnswered => exact q.execInventoryAnswered h
  | inventorySilent => exact q.execInventorySilent h

/-! ### capsAbsent (log 15) -/

/-- Only a SHOW_START stops with capsAbsent, and it has found a PRESENT channel without capabilities. -/
theorem execShowStart_capsAbsent {s : State} (h : execShowStart s = .fault .capsAbsent) :
    ∃ c, nextShow s = some c ∧ s.bus[c].caps = none := by
  unfold execShowStart at h
  split at h
  · cases h
  · split at h
    · cases h
    · split at h
      · cases h
      · split at h
        · exact ⟨_, ‹_›, ‹_›⟩
        · cases h

/-- No branch of any other command answers capsAbsent. -/
theorem exec_capsAbsent {c : Instr} {s : State} (h : exec c s = .fault .capsAbsent) : c = .showStart := by
  cases c with
  | showStart => rfl
  | discardedFrame lane =>
    cases lane <;> simp only [exec, execDiscardedFrame] at h <;> (repeat' split at h) <;> cases h
  | lineBreak | breakRelayEnd | terminalStatusChange | unknownKindFrame | downRelayStart | downRelayComplete
  | upMergeGrant | reportFrameSent | upRelayComplete =>
    simp only [exec, execLineBreak, execBreakRelayEnd, execTerminalStatusChange, execUnknownKindFrame,
      execDownRelayStart, execDownRelayComplete, execUpMergeGrant, execReportFrameSent, execUpRelayComplete] at h
    (repeat' split at h) <;> cases h
  | deadlineExpiry | doneHoldExpiry | waitBlinkExpiry | probationExpiry | lampTestExpiry | guardRelease
  | guardReleaseTimerExpiry =>
    simp only [exec, execDeadlineExpiry, execDoneHoldExpiry, execWaitBlinkExpiry, execProbationExpiry,
      execLampTestExpiry, execGuardRelease, execGuardReleaseTimerExpiry] at h
    (repeat' split at h) <;> cases h
  | visit | pollAnswered | pollSilent | showAcknowledged | showSilent | describeAnswered | describeSilent
  | inventoryAnswered | inventorySilent =>
    simp only [exec, execVisit, execPollAnswered, execPollSilent, execShowAcknowledged, execShowSilent,
      execDescribeAnswered, execDescribeSilent, execInventoryAnswered, execInventorySilent] at h
    (repeat' split at h) <;> cases h
  | _ => cases h

/-- Settles O59: the front command keeps every channel and the exchange in flight in agreement, and a SHOW goes
to a PRESENT channel, which has capabilities. -/
theorem everyStepKeepsTheBus : Obligations.EveryStepKeepsTheBus := by
  refine ⟨fun s t q h => ?_, fun s c q h => ?_⟩
  · unfold step at h
    split at h
    · cases h
      exact q
    · rename_i c rest _
      have stands : BusStand { s with pending := rest } := q.of_same rfl
      exact stands.exec h
  · obtain rfl := exec_capsAbsent h
    obtain ⟨c, next, none'⟩ := execShowStart_capsAbsent h
    have has := q.present c (present_of_nextShow next).1
    rw [none'] at has
    cases has

end Sys2Proof.Machine
end

section
/-! PROOFS. HOLD and RESUME (O30). -/

namespace Sys2Proof.Machine

/-! ### The hold set (R157, R162, R163) -/

/-- A hold set that was empty and is no longer: a hold beginning (R162). -/
theorem setHold_begins {s : State} {h g : Bool} (free : s.held = false) (holds : (h || g) = true) :
    setHold h g s = holdBegins { s with head := h, guard := g } := by
  simp [setHold, free, holds]

/-- A hold set that was not empty and now is: a hold ending (R163). -/
theorem setHold_ends {s : State} {h g : Bool} (held : s.held = true) (frees : (h || g) = false) :
    setHold h g s = holdEnds { s with head := h, guard := g } := by
  simp [setHold, held, frees]

/-- A hold set that stays empty, or not empty, is all that changes (R157). -/
theorem setHold_stands {s : State} {h g : Bool} (same : s.held = (h || g)) :
    setHold h g s = { s with head := h, guard := g } := by
  unfold setHold
  rw [if_pos same]

/-- A hold beginning marks PRESENT and tested channels and ends the lamp test (R162, R167). -/
theorem holdBegins_form (s : State) :
    ∃ d, holdBegins s = { s with disp := d, test := none } ∧ HoldBegan s { s with disp := d, test := none } := by
  refine ⟨_, rfl, fun c => ?_⟩
  simp only [onDisps, Fin.getElem_fin, getElem_mapTab, Fin.eta, isPresent_iff]
  have tested (d : Tab 64 DisplayRec) : { s with disp := d }.inTest c = s.inTest c := rfl
  rw [tested]
  by_cases present : s.bus[c.val].presence = .present
  · rw [if_pos present]
    exact (ite_self (markDirty s.disp[c])).trans (if_pos (.inl present)).symm
  · rw [if_neg present]
    exact if_congr (by simp [present]) rfl rfl

/-- A hold ending marks PRESENT channels and starts their settle windows (R163). -/
theorem holdEnds_form (s : State) :
    ∃ d, holdEnds s = { s with disp := d } ∧ HoldEnded s { s with disp := d } := by
  refine ⟨_, rfl, fun c => ?_⟩
  simp only [Fin.getElem_fin, getElem_mapTab, isPresent_iff]
  rfl

/-! ### HOLD and RESUME (R158, R159) -/

/-- A new hold set leaves what an ANSWER reads. -/
theorem setHold_answersFrom (h g : Bool) (s : State) : AnswersFrom s (setHold h g s) := by
  constructor <;> simp

/-- Settles O30, by whether HEAD and GUARD are in the hold set. -/
theorem holdFreezesAndResumeFrees : Obligations.HoldFreezesAndResumeFrees := by
  refine fun rx s => ⟨fun actedOn => ⟨fun head => ?_, fun head => ?_⟩,
    fun actedOn => ⟨fun head => ?_, fun head => ?_⟩⟩
  · exact answeredOnly_of_refuses (act := actHold) actedOn rfl (if_pos head)
  · obtain ⟨accepted, addressed, room, running⟩ := actedOn
    have acts : actHold (received .hold rx) s = (setHold true s.guard s, okWith .none) :=
      if_neg (by simp [head])
    obtain ⟨q, d, e, answers⟩ :=
      managementFrame_answers accepted addressed room (.inl running) acts (setHold_answersFrom ..)
    refine ⟨_, congrArg Host.Outcome.next e, answers, fun guard => ?_, fun guard => ?_⟩
    · rw [setHold_stands (by simp [State.held, guard])]
    · obtain ⟨disp, form, began⟩ := holdBegins_form { s with head := true, guard := s.guard }
      rw [setHold_begins (by simp [State.held, head, guard]) rfl, form]
      exact ⟨began, rfl⟩
  · exact answeredOnly_of_refuses (act := actResume) actedOn rfl (if_neg (by simp [head]))
  · obtain ⟨accepted, addressed, room, running⟩ := actedOn
    have acts : actResume (received .resume rx) s = (setHold false s.guard s, okWith .none) := if_pos head
    obtain ⟨q, d, e, answers⟩ :=
      managementFrame_answers accepted addressed room (.inl running) acts (setHold_answersFrom ..)
    refine ⟨_, congrArg Host.Outcome.next e, answers, fun guard => ?_, fun guard => ?_⟩
    · rw [setHold_stands (by simp [State.held, guard])]
    · obtain ⟨disp, form, ended⟩ := holdEnds_form { s with head := false, guard := s.guard }
      rw [setHold_ends (by simp [State.held, head]) (by simp [guard]), form]
      exact ⟨ended, rfl⟩

end Sys2Proof.Machine
end

section
/-! PROOFS. Outcomes of exchanges: an acknowledged SHOW (O41), silence and answers that count as silence (O42), and
the third miss (O43). -/

namespace Sys2Proof.Machine

/-! ### Answers in the words of the statements (R137, R138, R192) -/

/-- The address byte of a request carries its exchange code above its channel (R192). -/
theorem addressByte_eq (x : Exchange) :
    addressByte x = BitVec.ofNat 8 (64 * (exchangeCode x).toNat + (exchangeChannel x).val) := by
  have address (k : Byte) (small : k = 0 ∨ k = 1 ∨ k = 2) (c : Channel) :
      (k <<< 6) ||| channelByte c = BitVec.ofNat 8 (64 * k.toNat + c.val) := by
    rcases small with rfl | rfl | rfl <;> revert c <;> decide
  exact address _ (by cases x <;> simp [exchangeCode]) _

/-- A good answer is read (R137). -/
theorem answerInner_of_good {x : Exchange} {n : Nat} {a : List Byte}
    (good : GoodAnswer (exchangeCode x).toNat n (exchangeChannel x) a) :
    answerInner x n a = some ((a.drop 1).take n) := by
  unfold answerInner
  rw [addressByte_eq]
  exact if_pos good

/-- An answer that is not good is silent (R137). -/
theorem answerInner_of_bad {x : Exchange} {n : Nat} {a : List Byte}
    (bad : ¬ GoodAnswer (exchangeCode x).toNat n (exchangeChannel x) a) : answerInner x n a = none := by
  unfold answerInner
  rw [addressByte_eq]
  exact if_neg bad

/-- A good SHOW answer is a bare acknowledgement (R138). -/
theorem showAnswerGood_iff (c : Channel) (k : Content) (a : List Byte) :
    showAnswerGood c k a = true ↔ GoodAnswer 1 0 c a := by
  unfold showAnswerGood
  by_cases good : GoodAnswer 1 0 c a
  · rw [answerInner_of_good (x := .display c k) good]
    exact iff_of_true rfl good
  · rw [answerInner_of_bad (x := .display c k) good]
    exact iff_of_false nofun good

/-- An answer that is not good, or has a field out of range, describes nothing (R138). -/
theorem describedCaps_eq_none {x : Exchange} {c : Channel} {a : List Byte}
    (asks : x = .describe c ∨ x = .inventory c) (bad : ¬ (GoodAnswer 2 4 c a ∧ DescribeInRange a)) :
    describedCaps x a = none := by
  have address : (exchangeCode x).toNat = 2 ∧ exchangeChannel x = c := by
    rcases asks with rfl | rfl <;> exact ⟨rfl, rfl⟩
  obtain ⟨code, channel⟩ := address
  unfold describedCaps
  by_cases good : GoodAnswer 2 4 c a
  · have inner (j : Nat) (inside : j < 4) : byteAt ((a.drop 1).take 4) j = byteAt a (j + 1) := by
      simp [byteAt, inside]
    have outside : ¬ DescribeInRange a := fun inRange => bad ⟨good, inRange⟩
    rw [answerInner_of_good (by rw [code, channel]; exact good), Option.bind_some]
    refine if_neg fun fields => outside ?_
    simp only [inner, Nat.zero_lt_succ, Nat.one_lt_ofNat, Nat.reduceLT, Nat.reduceAdd] at fields
    unfold DescribeInRange
    omega
  · rw [answerInner_of_bad (by rw [code, channel]; exact good)]
    rfl

/-- A POLL answer that is not good carries no levels (R137). -/
theorem pollKeys_eq_none {c : Channel} {a : List Byte} (bad : ¬ GoodAnswer 0 1 c a) : pollKeys c a = none := by
  cases keys : pollKeys c a with
  | none => rfl
  | some k => exact absurd ((pollKeys_eq_some_iff c a k.1 k.2).mp keys).1 bad

/-! ### An acknowledged SHOW (R96, R97, R144) -/

/-- Settles O41: a good acknowledgement changes one display record and one bus record. -/
theorem acknowledgedShowIsTheLastContent : Obligations.AcknowledgedShowIsTheLastContent := by
  intro s c k a shown good
  have run : execShowAcknowledged a s =
      .next (answered c (onDisp c (fun d => { d with lastSent := some k }) (endExchange s))) := by
    unfold execShowAcknowledged
    rw [shown]
    exact if_pos ((showAnswerGood_iff c k a).mpr good)
  exact ⟨_, run, rfl, onlyAt_updTab c _ s.disp, onlyAt_updTab c _ s.bus⟩

/-! ### Silence (R96, R137, R144) -/

theorem execPollSilent_eq {s : State} {c : Channel} (on : s.exchange = some (.poll c)) :
    execPollSilent s = .next (miss c (endVisit s)) := by
  unfold execPollSilent
  rw [on]

theorem execDescribeSilent_eq {s : State} {c : Channel} (on : s.exchange = some (.describe c)) :
    execDescribeSilent s = .next (miss c (endVisit s)) := by
  unfold execDescribeSilent
  rw [on]

theorem execInventorySilent_eq {s : State} {c : Channel} (on : s.exchange = some (.inventory c)) :
    execInventorySilent s = .next (inventoryFails c s) := by
  unfold execInventorySilent
  rw [on]

theorem execShowSilent_eq {s : State} {c : Channel} {k : Content} (on : s.exchange = some (.display c k)) :
    execShowSilent s = .next (showFails c s) := by
  unfold execShowSilent
  rw [on]

/-- A miss below the third is counted (R144). -/
theorem miss_counts {s : State} {c : Channel} (below : s.bus[c].misses < 2) :
    miss c s = onBus c (fun b => { b with misses := b.misses + 1 }) s :=
  if_pos (Nat.succ_lt_succ below)

/-- What a miss below the third leaves of a state whose exchange has ended. -/
theorem miss_below_form {s : State} {c : Channel} (below : s.bus[c].misses < 2) :
    ∃ u, miss c s = { s with bus := u } ∧ OnlyAt c { s.bus[c] with misses := s.bus[c].misses + 1 } s.bus u :=
  ⟨_, miss_counts below, onlyAt_updTab c _ s.bus⟩

/-- Settles O42: below the third a miss is counted, and an answer that is not good is not read. -/
theorem silentExchangesAreMisses : Obligations.SilentExchangesAreMisses := by
  refine fun s c k => ⟨fun below => ⟨fun on => ?_, fun on => ?_, fun on => ?_, fun on => ?_⟩,
    fun a => ⟨fun on bad => ?_, fun on bad => ?_, fun on bad => ?_, fun on bad => ?_⟩⟩
  · obtain ⟨u, missed, counted⟩ := miss_below_form (s := endVisit s) below
    exact ⟨_, (execPollSilent_eq on).trans (congrArg _ missed), rfl, counted⟩
  · obtain ⟨u, missed, counted⟩ := miss_below_form (s := endVisit s) below
    exact ⟨_, (execDescribeSilent_eq on).trans (congrArg _ missed), rfl, counted⟩
  · obtain ⟨u, missed, counted⟩ := miss_below_form (s := endVisit s) below
    have fails : inventoryFails c s = miss c (endVisit s) := if_pos (Nat.succ_lt_succ below)
    exact ⟨_, (execInventorySilent_eq on).trans (congrArg _ (fails.trans missed)), rfl, counted⟩
  · obtain ⟨u, missed, counted⟩ := miss_below_form
      (s := onDisp c (fun d => { d with lastSent := none, dirty := true }) (endExchange s)) below
    exact ⟨_, (execShowSilent_eq on).trans (congrArg _ missed), rfl, counted, onlyAt_updTab c _ s.disp⟩
  · refine Eq.trans ?_ (execPollSilent_eq on).symm
    show execPollAnswered a s = _
    simp only [execPollAnswered, on, pollKeys_eq_none bad]
  · refine Eq.trans ?_ (execShowSilent_eq on).symm
    show execShowAcknowledged a s = _
    simp only [execShowAcknowledged, on, if_neg (mt (showAnswerGood_iff c k a).mp bad)]
  · refine Eq.trans ?_ (execDescribeSilent_eq on).symm
    show execDescribeAnswered a s = _
    simp only [execDescribeAnswered, on, describedCaps_eq_none (.inl rfl) bad]
  · refine Eq.trans ?_ (execInventorySilent_eq on).symm
    show execInventoryAnswered a s = _
    simp only [execInventoryAnswered, on, describedCaps_eq_none (.inr rfl) bad]

/-! ### The third miss (R144 to R146, R149) -/

/-- The third miss of a PRESENT or REVIVING channel takes it out; a REVIVING one and one in probation become
ISOLATED (R144, R145, R146, R149). -/
theorem miss_third {s : State} {c : Channel} (third : s.bus[c].misses = 2) :
    (s.bus[c].presence = .present → miss c s = failChannel c s.bus[c].probation.isSome s) ∧
    (s.bus[c].presence = .reviving → miss c s = failChannel c true s) := by
  have limit : ¬ s.bus[c].misses + 1 < Config.missLimit := by rw [third]; decide
  refine ⟨fun p => ?_, fun p => ?_⟩ <;> simp only [miss, if_neg limit, p]

/-- A channel taken out: lost, its content unknown, its MODULE_FAULT offered (R98, R119, R145, R146, R165). -/
theorem failChannel_lost (c : Channel) (isolated : Bool) (s : State) :
    (failChannel c isolated s = { s with
      bus := (failChannel c isolated s).bus, disp := (failChannel c isolated s).disp
      test := (failChannel c isolated s).test, beacon := (failChannel c isolated s).beacon
      queue := (failChannel c isolated s).queue, withheld := (failChannel c isolated s).withheld }) ∧
    ChannelLost c isolated s (failChannel c isolated s) ∧
    OnlyAt c { s.disp[c] with lastSent := none } s.disp (failChannel c isolated s).disp := by
  obtain ⟨q, w, e, offers⟩ := offer_form (.moduleFault c isolated s.slots[c].head?) (takeOut c isolated s)
  rw [failChannel_eq, e]
  refine ⟨rfl, ⟨onlyAt_updTab c _ s.bus, ?_, ?_, offers⟩, onlyAt_updTab c _ s.disp⟩
  · refine congrArg (Option.map · s.test) (funext fun x => ?_)
    have filters : x.set.filter (· != c) = x.set.filter fun d => decide (d ≠ c) :=
      List.filter_congr fun d _ => Bool.eq_iff_iff.mpr (by simp)
    rw [filters]
  · exact (beaconTrue_evalBeacon _).of_same rfl rfl .rfl .rfl

/-- A table changed twice at one place is changed there alone. -/
theorem OnlyAt.trans {α : Type} {c : Channel} {f : α → α} {t u v : Tab 64 α} {x : α}
    (first : OnlyAt c x t u) (second : OnlyAt c (f u[c]) u v) : OnlyAt c (f x) t v :=
  ⟨second.1.trans (congrArg f first.1), fun d other => (second.2 d other).trans (first.2 d other)⟩

/-- Settles O43: the third miss is failChannel on the state in which the exchange has ended. -/
theorem thirdMissTakesTheChannelOut : Obligations.ThirdMissTakesTheChannelOut := by
  refine fun s c third => ⟨fun present on => ?_, fun k present on => ?_, fun reviving on => ?_⟩
  · obtain ⟨rest, lost, unknown⟩ := failChannel_lost c s.bus[c].probation.isSome (endVisit s)
    have missed := (miss_third (s := endVisit s) third).1 present
    exact ⟨_, (execPollSilent_eq on).trans (congrArg _ missed), rest, lost, unknown⟩
  · have marked := onlyAt_updTab c (fun d => { d with lastSent := none, dirty := true }) s.disp
    obtain ⟨rest, lost, unknown⟩ := failChannel_lost c s.bus[c].probation.isSome
      (onDisp c (fun d => { d with lastSent := none, dirty := true }) (endExchange s))
    have missed : showFails c s = _ := (miss_third (s := onDisp c _ (endExchange s)) third).1 present
    exact ⟨_, (execShowSilent_eq on).trans (congrArg _ missed), rest, lost,
      marked.trans (f := fun d => { d with lastSent := none }) unknown⟩
  · obtain ⟨rest, lost, unknown⟩ := failChannel_lost c true (endVisit s)
    have missed := (miss_third (s := endVisit s) third).2 reviving
    exact ⟨_, (execDescribeSilent_eq on).trans (congrArg _ missed), rest, lost, unknown⟩

end Sys2Proof.Machine
end

section
/-! PROOFS. A RUN refused whole (O20). -/

namespace Sys2Proof.Machine

/-! ### A claimed RUN and its whole-run checks (R12, R105) -/

/-- With essential room a claimed RUN is acted on and relayed marked (R7, R11, R12). -/
theorem exec_run_claimed {rx : RxFrame} {i : EntryNo} {c : Channel} {s : State}
    (claimed : Claimed .run rx i c s) (room : s.queue.length + 2 ≤ 32) :
    exec (.run rx) s =
      .next (relayDown (markClaimed (received .run rx)) (actRun (runOp rx.payload) i c s)) := by
  show execRun rx s = _
  unfold execRun
  rw [(essentialRoom_iff s).mpr room]
  exact congrArg Host.Outcome.next (receiveDown_claimed claimed)

/-- The whole-run checks in the words of the statements. -/
theorem runCheck_eq (s : State) (i : EntryNo) (v : RunOp) :
    runCheck s i v =
      (if v.count < 1 ∨ 32 < v.count then some .runCount
       else if v.quantities.length ≠ 1 ∧ v.quantities.length ≠ v.count then some .runList
       else if s.ranges[i].permRun = false then some .notPermitted
       else if s.lanes[v.lane].enabled = false then some .laneDisabled
       else if ∃ q ∈ v.quantities, 9999 < q then some .badQuantity
       else none) := by
  have count : (v.count < 1 || 32 < v.count) = true ↔ v.count < 1 ∨ 32 < v.count := by simp
  have list : (!(v.quantities.length == 1 || v.quantities.length == v.count)) = true ↔
      v.quantities.length ≠ 1 ∧ v.quantities.length ≠ v.count := by simp
  have quantity : v.quantities.any (Config.maxQuantity < ·) = true ↔ ∃ q ∈ v.quantities, 9999 < q := by simp
  simp only [runCheck, firstFailing]
  exact if_congr count rfl <| if_congr list rfl <|
    if_congr (Bool.not_eq_true' _).to_iff rfl <| if_congr (Bool.not_eq_true' _).to_iff rfl <|
    if_congr quantity rfl rfl

/-- A RUN that fails a whole-run check walks nowhere: with essential room its REFUSED is taken in, and that
is all (R105). -/
theorem actRun_refuses {v : RunOp} {i : EntryNo} {s : State} {r : RefuseReason}
    (check : runCheck s i v = some r) (room : s.queue.length + 2 ≤ 32) (c : Channel) :
    actRun v i c s = { s with queue := s.queue ++ [reportOf s (.refused .run v.base v.start c r)] } := by
  have taken : placesNeeded (.refused .run v.base v.start c r) ≤ s.freePlaces :=
    of_decide_eq_true ((essentialRoom_iff s).mpr room)
  rw [actRun, check]
  show offer _ s = _
  rw [offer, if_pos taken, record, stamp_eq]
  rfl

/-- Settles O20: the first failing check, the record taken in for it, and the marked relay. -/
theorem runRefusedWhole : Obligations.RunRefusedWhole := by
  intro rx i c s r claimed room v failing
  have refuses := actRun_refuses ((runCheck_eq s i v).trans failing) room c
  obtain ⟨d, relayed, marked⟩ := relayMarked_form .run rx (s := s)
    (u := { s with queue := s.queue ++ [reportOf s (.refused .run v.base v.start c r)] }) rfl rfl
  rw [exec_run_claimed claimed room, refuses]
  exact ⟨_, congrArg _ relayed, rfl, rfl, marked⟩

end Sys2Proof.Machine
end

section
/-! PROOFS. A good POLL answer is one reading of each key (O44). -/

namespace Sys2Proof.Machine

/-! ### A reading of a key (R117, R118) -/

/-- A reading shifts into a key history and settles it on two equal readings. -/
theorem readInto_readKey (k : KeyLevel) (h : KeyHistory) : ReadInto k h (readKey k h) := by
  obtain ⟨earlier, latest, settled⟩ := h
  refine ⟨rfl, rfl, ?_⟩
  cases k <;> rcases latest with _ | _ | _ <;> rfl

theorem hasAdjust_iff (b : BusRec) : hasAdjust b = true ↔ ∃ k, b.caps = some k ∧ k.adjustKey = true :=
  Option.any_eq_true ..

/-- A reading makes a press, in the order of the statements. -/
theorem makesPress_iff_level (k : KeyLevel) (h : KeyHistory) :
    makesPress k h = true ↔ k = .down ∧ h.latest = some .down ∧ h.settled = some .up := by
  rw [makesPress_iff]
  exact ⟨fun ⟨settled, latest, level⟩ => ⟨level, latest, settled⟩,
    fun ⟨level, latest, settled⟩ => ⟨settled, latest, level⟩⟩

theorem makesPress_confirm_iff (c : Channel) (a : List Byte) (s : State) :
    makesPress (levelIn a 0) s.bus[c].confirmKey = true ↔ ConfirmPressed c a s :=
  makesPress_iff_level ..

theorem makesPress_adjust_iff (c : Channel) (a : List Byte) (s : State) :
    (hasAdjust s.bus[c] && makesPress (levelIn a 1) s.bus[c].adjustKey) = true ↔ AdjustPressed c a s := by
  rw [Bool.and_eq_true, hasAdjust_iff, makesPress_iff_level]
  rfl

/-! ### The bus after a reading (R117, R118, R144) -/

/-- Judging a press leaves the key histories and the rest of the bus (R120). -/
@[simp] theorem adjustPress_bus (c : Channel) (s : State) : (adjustPress c s).bus = s.bus := by
  rcases adjustPress_cases c s with same | ⟨x, taken⟩
  · rw [same]
  · rw [taken]
    rfl

@[simp] theorem takeConfirm_bus (c : Channel) (x : Task) (s : State) : (takeConfirm c x s).bus = s.bus := rfl

@[simp] theorem confirmPress_bus (c : Channel) (s : State) : (confirmPress c s).bus = s.bus := by
  unfold confirmPress
  split
  · rfl
  · split
    · exact offer_bus ..
    · split_ifs
      · exact offer_bus ..
      · rfl
      · exact takeConfirm_bus ..

/-- The bus record of a channel after a reading of its keys. -/
def keysRead (confirm adjust : KeyLevel) (b : BusRec) : BusRec :=
  { b with
    confirmKey := readKey confirm b.confirmKey
    adjustKey := if hasAdjust b then readKey adjust b.adjustKey else b.adjustKey }

theorem beforeConfirm_eq (c : Channel) (confirm adjust : KeyLevel) (s : State) :
    beforeConfirm c confirm adjust s =
      if hasAdjust s.bus[c] && makesPress adjust s.bus[c].adjustKey then
        adjustPress c (onBus c (keysRead confirm adjust) s)
      else onBus c (keysRead confirm adjust) s := rfl

@[simp] theorem beforeConfirm_bus (c : Channel) (confirm adjust : KeyLevel) (s : State) :
    (beforeConfirm c confirm adjust s).bus = updTab s.bus c (keysRead confirm adjust) := by
  rw [beforeConfirm_eq]
  split
  · exact adjustPress_bus ..
  · rfl

@[simp] theorem reading_bus (c : Channel) (confirm adjust : KeyLevel) (s : State) :
    (reading c confirm adjust s).bus = updTab s.bus c (keysRead confirm adjust) := by
  rw [reading_eq]
  split
  · rw [confirmPress_bus, beforeConfirm_bus]
  · exact beforeConfirm_bus ..

/-! ### A good POLL answer (R117, R120, R144) -/

theorem execPollAnswered_of_polled {c : Channel} {a : List Byte} {s : State} (polled : Polled c a s) :
    execPollAnswered a s = .next (reading c (levelIn a 0) (levelIn a 1) (answered c (endVisit s))) := by
  obtain ⟨asked, good⟩ := polled
  have keys : pollKeys c a = some (levelIn a 0, levelIn a 1) :=
    (pollKeys_eq_some_iff ..).mpr ⟨good, rfl, rfl⟩
  simp only [execPollAnswered, asked, keys]

/-- Returning the miss count to 0 leaves the key histories and the capabilities. -/
theorem answered_bus_self (c : Channel) (s : State) : (answered c s).bus[c] = { s.bus[c] with misses := 0 } :=
  getElem_updTab_self ..

theorem confirmPressed_answered (c : Channel) (a : List Byte) (s : State) :
    ConfirmPressed c a (answered c (endVisit s)) ↔ ConfirmPressed c a s := by
  unfold ConfirmPressed
  rw [answered_bus_self]
  rfl

theorem adjustPressed_answered (c : Channel) (a : List Byte) (s : State) :
    AdjustPressed c a (answered c (endVisit s)) ↔ AdjustPressed c a s := by
  unfold AdjustPressed
  rw [answered_bus_self]
  rfl

/-- A reading that makes no press hands nothing over: only the histories shift (R118, R120). -/
theorem reading_without_press {c : Channel} {a : List Byte} {s : State} (confirm : ¬ ConfirmPressed c a s)
    (adjust : ¬ AdjustPressed c a s) :
    reading c (levelIn a 0) (levelIn a 1) s = onBus c (keysRead (levelIn a 0) (levelIn a 1)) s := by
  rw [reading_eq, if_neg (mt (makesPress_confirm_iff c a s).mp confirm), beforeConfirm_eq,
    if_neg (mt (makesPress_adjust_iff c a s).mp adjust)]

/-- The bus record of an answered channel: no misses, and its keys read (R117, R144). -/
theorem reading_answered_onlyAt (c : Channel) (confirm adjust : KeyLevel) (s : State) :
    OnlyAt c (keysRead confirm adjust { s.bus[c] with misses := 0 }) s.bus
      (reading c confirm adjust (answered c (endVisit s))).bus := by
  rw [reading_bus]
  exact (onlyAt_updTab c (fun b => { b with misses := 0 }) s.bus).trans
    (onlyAt_updTab c (keysRead confirm adjust) (answered c (endVisit s)).bus)

/-- Settles O44: the answer's levels shift into the histories, and without a press nothing is handed over. -/
theorem answeredPollIsOneReading : Obligations.AnsweredPollIsOneReading := by
  intro s c a polled
  refine ⟨_, _, _, execPollAnswered_of_polled polled, reading_answered_onlyAt c (levelIn a 0) (levelIn a 1) s,
    readInto_readKey .., fun key => ?_, fun noKey => ?_, fun confirm adjust => ?_⟩
  · show ReadInto _ _ (if hasAdjust s.bus[c] then readKey _ _ else _)
    rw [if_pos ((hasAdjust_iff s.bus[c]).mpr key)]
    exact readInto_readKey ..
  · exact if_neg (mt (hasAdjust_iff s.bus[c]).mp noKey)
  · rw [reading_without_press (mt (confirmPressed_answered c a s).mp confirm)
      (mt (adjustPressed_answered c a s).mp adjust)]
    rfl

end Sys2Proof.Machine
end

section
/-! PROOFS. Visits of the shelf bus (O39), and answered DESCRIBEs of a revive (O48) and of the inventory (O49). -/

namespace Sys2Proof.Machine

/-! ### Where a visit goes (R140) -/

/-- From the cursor on, a channel stands at its distance from the cursor. -/
theorem getElem_circle (cursor c : Channel) (inside : (c - cursor).val < (channels.map (cursor + ·)).length) :
    (channels.map (cursor + ·))[(c - cursor).val] = c := by
  simp [channels]

/-- A visit goes to the PRESENT or REVIVING channel that is first from the cursor on. -/
theorem nextVisit_eq_some {s : State} {c : Channel}
    (visited : s.bus[c].presence = .present ∨ s.bus[c].presence = .reviving)
    (first : ∀ d : Channel, s.bus[d].presence = .present ∨ s.bus[d].presence = .reviving →
      (c - s.cursor).val ≤ (d - s.cursor).val) : nextVisit s = some c := by
  have inside : (c - s.cursor).val < (channels.map (s.cursor + ·)).length := by
    rw [List.length_map, length_channels]
    exact (c - s.cursor).isLt
  refine List.find?_eq_some_iff_getElem.mpr ⟨by simpa [State.presenceOf] using visited,
    (c - s.cursor).val, inside, getElem_circle _ _ inside, fun j nearer => ?_⟩
  obtain ⟨d, rfl⟩ : ∃ d : Channel, (d - s.cursor).val = j :=
    ⟨s.cursor + ⟨j, nearer.trans (c - s.cursor).isLt⟩, by simp⟩
  have passed := mt (first d) (Nat.not_le.mpr nearer)
  rw [getElem_circle]
  simpa [State.presenceOf] using passed

/-- Without a PRESENT or REVIVING channel there is no visit. -/
theorem nextVisit_eq_none {s : State}
    (alone : ∀ c : Channel, ¬ (s.bus[c].presence = .present ∨ s.bus[c].presence = .reviving)) :
    nextVisit s = none :=
  Option.eq_none_iff_forall_ne_some.mpr fun c next => alone c (presence_of_nextVisit next)

/-! ### VISIT (R137, R141, R151, R192) -/

/-- The batch has a SHOW to make exactly while some PRESENT channel is dirty (R141). -/
theorem nextShow_isSome_iff (s : State) :
    (nextShow s).isSome = true ↔ ∃ c : Channel, s.bus[c].presence = .present ∧ s.disp[c].dirty = true := by
  simp [nextShow, State.isPresent]

theorem requestBytes_poll (c : Channel) : requestBytes (.poll c) = withCheckByte [BitVec.ofNat 8 c.val] := by
  simp [requestBytes, addressByte_eq, exchangeCode, exchangeChannel]

/-- A revive's DESCRIBE and the inventory's ask a channel in the same bytes. -/
theorem requestBytes_describe {x : Exchange} {c : Channel} (asks : x = .describe c ∨ x = .inventory c) :
    requestBytes x = withCheckByte [BitVec.ofNat 8 (128 + c.val)] := by
  rcases asks with rfl | rfl <;> simp [requestBytes, addressByte_eq, exchangeCode, exchangeChannel]

/-- Between the batches a visit is made as the controller state has it. -/
theorem execVisit_between {s : State} (idle : s.exchange = none)
    (done : ¬ (0 < s.batchLeft ∧ (nextShow s).isSome = true)) :
    (s.ctrl = .running → execVisit s = .next (visitRunning s)) ∧
    (s.ctrl = .starting →
      execVisit s = .next { startExchange (.inventory s.inventory) s with batchLeft := 0 }) := by
  refine ⟨fun mode => ?_, fun mode => ?_⟩ <;>
    simp only [execVisit, idle, Option.isSome_none, Bool.false_eq_true, if_false, if_neg done, mode]

/-- Settles O39: the first channel from the cursor on, and the request that each presence state gives. -/
theorem visitGoesToTheNextChannel : Obligations.VisitGoesToTheNextChannel := by
  refine fun s idle => ⟨fun left owed => ?_, fun none' => ?_⟩
  · show execVisit s = _
    simp only [execVisit, idle, Option.isSome_none, Bool.false_eq_true, if_false,
      if_pos (And.intro left ((nextShow_isSome_iff s).mpr owed))]
  have done : ¬ (0 < s.batchLeft ∧ (nextShow s).isSome = true) := by
    rintro ⟨left, owed⟩
    obtain ⟨c, present, dirty⟩ := (nextShow_isSome_iff s).mp owed
    rcases none' with spent | clean
    · exact absurd left (spent ▸ Nat.lt_irrefl 0)
    · exact absurd (dirty.symm.trans (clean c present)) nofun
  obtain ⟨running, starting⟩ := execVisit_between idle done
  refine ⟨fun mode => ⟨fun c visited first => ⟨fun present => ?_, fun reviving => ?_⟩, fun alone => ?_⟩,
    fun mode => ?_⟩
  · refine (running mode).trans ?_
    rw [visitRunning, nextVisit_eq_some visited first]
    simp only [(isPresent_iff s c).mpr present, if_true, startExchange, requestBytes_poll]
  · have lost : ¬ s.isPresent c = true := fun p => absurd (reviving.symm.trans ((isPresent_iff s c).mp p)) nofun
    refine (running mode).trans ?_
    rw [visitRunning, nextVisit_eq_some visited first]
    simp only [if_neg lost, startExchange, requestBytes_describe (.inl rfl)]
  · refine (running mode).trans ?_
    rw [visitRunning, nextVisit_eq_none alone]
  · refine (starting mode).trans ?_
    rw [startExchange, requestBytes_describe (.inr rfl)]

/-! ### A DESCRIBE answered (R138, R139, R192) -/

/-- A good answer with its fields in range carries the capabilities. -/
theorem describedCaps_eq_some {x : Exchange} {c : Channel} {a : List Byte}
    (asks : x = .describe c ∨ x = .inventory c) (good : GoodAnswer 2 4 c a) (inRange : DescribeInRange a) :
    describedCaps x a = some (capsIn a) := by
  have read : answerInner x 4 a = some ((a.drop 1).take 4) :=
    answerInner_of_good (by rcases asks with rfl | rfl <;> exact good)
  have inner (j : Nat) (inside : j < 4) : byteAt ((a.drop 1).take 4) j = byteAt a (j + 1) := by
    simp [byteAt, inside]
  obtain ⟨atLeast, atMost, colour, key⟩ := inRange
  have digits : (byteAt a 1).toNat = 2 ∨ (byteAt a 1).toNat = 3 ∨ (byteAt a 1).toNat = 4 := by omega
  unfold describedCaps
  rw [read, Option.bind_some, inner 0 (by decide), inner 1 (by decide), inner 2 (by decide), inner 3 (by decide)]
  exact if_pos ⟨digits, colour, key⟩

/-! ### A revive that succeeds (R148) -/

/-- A successful revive is one bus record, one display record and an offer of MODULE_BACK. -/
theorem revived_form (c : Channel) (k : Caps) (s : State) :
    ∃ q w, revived c k s = { s with
        bus := updTab s.bus c (described k (some (ahead s.time s.probationUnits)))
        disp := updTab s.disp c fun d => startSettle s.time s.settleUnits (markDirty d)
        queue := q, withheld := w } ∧
      Offers 9 (.moduleBack c s.slots[c].head?) s { s with queue := q, withheld := w } := by
  obtain ⟨q, w, taken, offers⟩ := offer_form (.moduleBack c s.slots[c].head?)
    (onDisp c (fun d => startSettle s.time s.settleUnits (markDirty d))
      (onBus c (described k (some (ahead s.time s.probationUnits))) s))
  exact ⟨q, w, taken, offers⟩

/-- Settles O48: the answer is read, and the channel's two records and the offer are what revived makes. -/
theorem answeredDescribeBringsTheModuleBack : Obligations.AnsweredDescribeBringsTheModuleBack := by
  intro s c a asked good inRange
  have run : execDescribeAnswered a s = .next (revived c (capsIn a) (endVisit s)) := by
    simp only [execDescribeAnswered, asked, describedCaps_eq_some (.inl rfl) good inRange]
  obtain ⟨q, w, revives, offers⟩ := revived_form c (capsIn a) (endVisit s)
  rw [revives] at run
  exact ⟨_, run, rfl, onlyAt_updTab c _ s.bus, onlyAt_updTab c _ s.disp, offers⟩

/-! ### The inventory (R151, R152) -/

/-- The inventory moves as the statements say, whatever the bus records hold. -/
theorem inventoryMoves_withBus (c : Channel) (s : State) (u : Tab 64 BusRec) :
    inventoryMoves c { s with bus := u } = { inventoryAfter c s with bus := u } := by
  unfold inventoryMoves inventoryAfter
  split <;> rfl

/-- The third silence leaves an ABSENT channel ABSENT, its count at 0 again (R144, R151). -/
theorem miss_third_absent {s : State} {c : Channel} (absent : s.bus[c].presence = .absent)
    (third : s.bus[c].misses = 2) : miss c s = onBus c (fun b => { b with misses := 0 }) s := by
  have limit : ¬ s.bus[c].misses + 1 < Config.missLimit := by rw [third]; decide
  simp only [miss, if_neg limit, absent]

/-- Settles O49: an answer or a third silence changes one bus record, and the inventory moves on. -/
theorem inventoryDecidesEachChannel : Obligations.InventoryDecidesEachChannel := by
  refine fun s c asked => ⟨fun a good inRange => ?_, fun absent third => ?_⟩
  · have run : execInventoryAnswered a s =
        .next (inventoryMoves c (onBus c (described (capsIn a) none) (endVisit s))) := by
      simp only [execInventoryAnswered, asked, describedCaps_eq_some (.inr rfl) good inRange]
    exact ⟨_, run.trans (congrArg _ (inventoryMoves_withBus c (endVisit s) _)), rfl, onlyAt_updTab c _ s.bus⟩
  · have fails : inventoryFails c s = inventoryMoves c (miss c (endVisit s)) := if_neg (by
      rw [third]
      decide)
    rw [miss_third_absent (s := endVisit s) absent third] at fails
    exact ⟨_, (execInventorySilent_eq asked).trans
      (congrArg _ (fails.trans (inventoryMoves_withBus c (endVisit s) _))), rfl, onlyAt_updTab c _ s.bus⟩

end Sys2Proof.Machine
end

section
/-! PROOFS. Which commands make a channel PRESENT or ABSENT (O6). -/

namespace Sys2Proof.Machine

/-! ### Presence gained between two states -/

/-- Only a channel asked becomes PRESENT, and none becomes ABSENT. -/
def GainsOnly (asked : Channel → Prop) (s t : State) : Prop :=
  ∀ n : Channel, (t.bus[n].presence = .present → s.bus[n].presence = .present ∨ asked n) ∧
    (t.bus[n].presence = .absent → s.bus[n].presence = .absent)

variable {asked : Channel → Prop} {s t u : State}

theorem GainsOnly.of_presence (same : ∀ n : Channel, t.bus[n].presence = s.bus[n].presence) :
    GainsOnly asked s t :=
  fun n => ⟨fun present => .inl ((same n).symm.trans present), fun absent => (same n).symm.trans absent⟩

theorem GainsOnly.of_busKept (kept : BusKept s t) : GainsOnly asked s t := .of_presence kept.presence

theorem GainsOnly.of_bus (same : t.bus = s.bus) : GainsOnly asked s t := .of_presence fun n => by rw [same]

theorem GainsOnly.trans (first : GainsOnly asked s t) (second : GainsOnly asked t u) : GainsOnly asked s u :=
  fun n => ⟨fun present => ((second n).1 present).elim (first n).1 .inr, (first n).2 ∘ (second n).2⟩

/-- One bus record changes: its channel's presence stands, or becomes no ABSENT and PRESENT if asked. -/
theorem GainsOnly.of_updTab {c : Channel} {f : BusRec → BusRec} (bus : t.bus = updTab s.bus c f)
    (here : (f s.bus[c]).presence = s.bus[c].presence ∨
      (f s.bus[c]).presence ≠ .absent ∧ ((f s.bus[c]).presence = .present → asked c)) : GainsOnly asked s t := by
  obtain ⟨self, others⟩ := onlyAt_updTab c f s.bus
  intro n
  rw [bus]
  by_cases at' : n = c
  · subst at'
    rw [self]
    rcases here with same | ⟨known, gained⟩
    · rw [same]
      exact ⟨.inl, id⟩
    · exact ⟨fun present => .inr (gained present), fun absent => absurd absent known⟩
  · rw [others n at']
    exact ⟨.inl, id⟩

/-! ### The shelf bus's commands -/

/-- A miss takes a channel to FAULTED or ISOLATED at most (R144, R145, R146). -/
theorem miss_gains (c : Channel) (s : State) : GainsOnly asked s (miss c s) := by
  have lost (isolated : Bool) : GainsOnly asked s (failChannel c isolated s) := by
    rw [failChannel_eq]
    refine .of_updTab (c := c) (offer_bus ..) (.inr ?_)
    cases isolated <;> exact ⟨nofun, nofun⟩
  rcases miss_cases c s with ⟨_, e⟩ | ⟨_, _, e⟩ | ⟨_, _, e⟩ | ⟨_, _, _, e⟩ <;> rw [e]
  · exact .of_updTab (c := c) rfl (.inl rfl)
  · exact lost _
  · exact lost true
  · exact .of_updTab (c := c) rfl (.inl rfl)

theorem inventoryFails_gains (c : Channel) (s : State) : GainsOnly asked s (inventoryFails c s) := by
  have missed : GainsOnly asked s (miss c (endVisit s)) := miss_gains c (endVisit s)
  unfold inventoryFails
  split
  · exact missed
  · exact missed.trans (.of_bus (inventoryMoves_same ..).1)

theorem execVisit_bus (h : execVisit s = .next t) : t.bus = s.bus := by
  unfold execVisit at h
  split at h
  · cases h
  · split at h
    · cases h
      rfl
    · split at h <;> cases h
      · rfl
      · unfold visitRunning
        split <;> rfl

theorem execShowStart_bus (h : execShowStart s = .next t) : t.bus = s.bus := by
  unfold execShowStart at h
  split at h
  · cases h
  · split at h
    · cases h
      rfl
    · split at h
      · cases h
        rfl
      · split at h <;> cases h
        rfl

theorem execPollAnswered_gains {a : List Byte} (h : execPollAnswered a s = .next t) : GainsOnly asked s t := by
  unfold execPollAnswered at h
  split at h
  · rename_i c _
    split at h <;> cases h
    · have counted : GainsOnly asked s (answered c (endVisit s)) := .of_updTab (c := c) rfl (.inl rfl)
      exact counted.trans (.of_updTab (reading_bus ..) (.inl rfl))
    · exact miss_gains c (endVisit s)
  · cases h

theorem showFails_gains (c : Channel) (s : State) : GainsOnly asked s (showFails c s) := by
  have unknown : GainsOnly asked s
      (onDisp c (fun d => { d with lastSent := none, dirty := true }) (endExchange s)) := .of_bus rfl
  exact unknown.trans (miss_gains c _)

theorem execShowAcknowledged_gains {a : List Byte} (h : execShowAcknowledged a s = .next t) :
    GainsOnly asked s t := by
  unfold execShowAcknowledged at h
  split at h
  · rename_i c _ _
    split at h <;> cases h
    · exact .of_updTab (c := c) rfl (.inl rfl)
    · exact showFails_gains c s
  · cases h

/-- The answer of a revive's DESCRIBE makes the channel asked PRESENT (R148). -/
theorem execDescribeAnswered_gains {a : List Byte} (asks : ∀ c, s.exchange = some (.describe c) → asked c)
    (h : execDescribeAnswered a s = .next t) : GainsOnly asked s t := by
  unfold execDescribeAnswered at h
  split at h
  · rename_i c describing
    split at h <;> cases h
    · rename_i k _
      obtain ⟨q, w, revives, _⟩ := revived_form c k (endVisit s)
      exact .of_updTab (c := c) (congrArg State.bus revives) (.inr ⟨nofun, fun _ => asks c describing⟩)
    · exact miss_gains c (endVisit s)
  · cases h

/-- The answer of the inventory's DESCRIBE makes the channel asked PRESENT (R151). -/
theorem execInventoryAnswered_gains {a : List Byte} (asks : ∀ c, s.exchange = some (.inventory c) → asked c)
    (h : execInventoryAnswered a s = .next t) : GainsOnly asked s t := by
  unfold execInventoryAnswered at h
  split at h
  · rename_i c inventoried
    split at h <;> cases h
    · exact .of_updTab (c := c) (inventoryMoves_same ..).1 (.inr ⟨nofun, fun _ => asks c inventoried⟩)
    · exact inventoryFails_gains c s
  · cases h

/-- A silent exchange makes no channel PRESENT or ABSENT (R96, R144). -/
theorem exec_silent_gains {c : Instr}
    (silent : c = .pollSilent ∨ c = .showSilent ∨ c = .describeSilent ∨ c = .inventorySilent)
    (h : exec c s = .next t) : GainsOnly asked s t := by
  rcases silent with rfl | rfl | rfl | rfl <;>
    simp only [exec, execPollSilent, execShowSilent, execDescribeSilent, execInventorySilent] at h <;>
    split at h <;> cases h
  · exact miss_gains _ (endVisit s)
  · exact showFails_gains _ s
  · exact miss_gains _ (endVisit s)
  · exact inventoryFails_gains _ s

/-- A revive that starts makes its channel REVIVING (R147). -/
theorem execRevive_gains {rx : RxFrame} (h : execRevive rx s = .next t) : GainsOnly asked s t := by
  cases h
  rcases managementFrame_bus .revive rx actRevive s with kept | ⟨_, kept⟩
  · exact .of_busKept kept
  · refine GainsOnly.trans ?_ (.of_busKept kept)
    rcases actRevive_cases (received .revive rx) s with e | ⟨c, _, _, e⟩ <;> rw [e]
    · exact .of_bus rfl
    · exact .of_updTab (c := c) rfl (.inr ⟨nofun, nofun⟩)

/-! ### The resets (R9, R153 to R155) -/

/-- A break that makes no power-on reset makes a string reset or nothing: a REVIVING channel becomes FAULTED,
and every other presence state stands. -/
theorem execLineBreak_gains {p g : Bool} (noPower : ¬ (s.ctrl = .starting ∧ s.breakWait = false))
    (h : execLineBreak p g s = .next t) : GainsOnly asked s t := by
  by_cases waits : s.breakWait = true
  · exact .of_busKept (execLineBreak_waiting_busKept waits h)
  · have ready : s.breakWait = false := Bool.eq_false_of_not_eq_true waits
    cases mode : s.ctrl with
    | starting => exact absurd ⟨mode, ready⟩ noPower
    | running =>
      rw [execLineBreak_running ready mode] at h
      cases h
      intro n
      show ((stringReset p g s).bus[n].presence = _ → _) ∧ ((stringReset p g s).bus[n].presence = _ → _)
      rw [stringReset_bus, busAfterStringReset]
      dsimp only
      split
      · exact ⟨nofun, nofun⟩
      · exact ⟨.inl, id⟩

/-- A power-on reset leaves every channel as R154 gives it. -/
theorem exec_powersOn_bus {p g : Bool} {c : Instr} (powers : PowersOn p g c s) (h : exec c s = .next t)
    (n : Channel) : t.bus[n] = BusRec.powerOn := by
  rcases powers with rfl | ⟨rfl, starting, ready⟩
  · cases h
    exact powerOn_bus p g s n
  · cases (execLineBreak_starting ready starting).symm.trans h
    exact powerOn_bus p g s n

/-! ### Every command -/

/-- The resets, the start and outcome of exchanges, and REVIVE. -/
def isBusCommand : Instr → Bool
  | .powerOnReset .. | .lineBreak .. | .revive _ | .visit | .showStart | .pollAnswered _ | .pollSilent
  | .showAcknowledged _ | .showSilent | .describeAnswered _ | .describeSilent | .inventoryAnswered _
  | .inventorySilent => true
  | _ => false

/-- Every other command leaves the shelf bus as it is. -/
theorem exec_busKept {c : Instr} (other : isBusCommand c = false) (h : exec c s = .next t) : BusKept s t := by
  cases c with
  | powerOnReset | lineBreak | revive | visit | showStart | pollAnswered | pollSilent | showAcknowledged
  | showSilent | describeAnswered | describeSilent | inventoryAnswered | inventorySilent => cases other
  | breakRelayEnd | terminalStatusChange | frameEarlyDiscard | discardedFrame | unknownKindFrame | upiSpacing
  | upFrameAccepted | downRelayStart | downRelayComplete | upMergeGrant | reportFrameSent | upRelayComplete =>
    exact exec_lane_busKept rfl h
  | post => cases h; exact receiveDown_busKept (claimFrame_busKept (actPost_busKept _ · · s))
  | run => cases h; exact receiveDown_busKept (claimFrame_busKept (actRun_busKept _ · · s))
  | amend => cases h; exact receiveDown_busKept (claimFrame_busKept (actAmend_busKept _ · · s))
  | withdraw => cases h; exact receiveDown_busKept (claimFrame_busKept (actWithdraw_busKept _ · · s))
  | release => cases h; exact receiveDown_busKept (claimFrame_busKept (actRelease_busKept _ · · s))
  | enumerate => cases h; exact receiveDown_busKept (dispatchEnumerate_busKept ..)
  | setup | askStatus => cases h; exact managementFrame_busKept fun _ => .of_same rfl
  | lanes => cases h; exact managementFrame_busKept (actLanes_busKept · s)
  | ranges => cases h; exact managementFrame_busKept (actRanges_busKept · s)
  | lock => cases h; exact managementFrame_busKept (actLock_busKept · s)
  | purge => cases h; exact managementFrame_busKept (actPurge_busKept · s)
  | sweep => cases h; exact managementFrame_busKept (actSweep_busKept · s)
  | hold => cases h; exact managementFrame_busKept (actHold_busKept · s)
  | resume => cases h; exact managementFrame_busKept (actResume_busKept · s)
  | test => cases h; exact managementFrame_busKept (actTest_busKept · s)
  | askSlot => cases h; exact managementFrame_busKept (actAskSlot_busKept · s)
  | askTask => cases h; exact managementFrame_busKept (actAskTask_busKept · s)
  | timeAdvance => cases h; exact (flushExpiries_busKept s).trans (tick_busKept _)
  | deadlineExpiry => exact execDeadlineExpiry_busKept h
  | doneHoldExpiry => exact execDoneHoldExpiry_busKept h
  | waitBlinkExpiry => exact execWaitBlinkExpiry_busKept h
  | probationExpiry => exact execProbationExpiry_busKept h
  | lampTestExpiry => exact execLampTestExpiry_busKept h
  | guardAssertion => exact execGuardAssertion_busKept h
  | guardRelease => exact execGuardRelease_busKept h
  | guardReleaseTimerExpiry => exact execGuardReleaseTimerExpiry_busKept h

/-- The channel is asked by a DESCRIBE in flight, and the command is its answer. -/
def AnswersDescribe (c : Instr) (s : State) (n : Channel) : Prop :=
  (∃ a, c = .describeAnswered a ∧ s.exchange = some (.describe n)) ∨
    ∃ a, c = .inventoryAnswered a ∧ s.exchange = some (.inventory n)

/-- But for a power-on reset, a channel becomes PRESENT by its answer to a DESCRIBE alone, and ABSENT never. -/
theorem exec_gains {c : Instr} (noPower : ¬ ∃ p g, PowersOn p g c s) (h : exec c s = .next t) :
    GainsOnly (AnswersDescribe c s) s t := by
  by_cases other : isBusCommand c = false
  · exact .of_busKept (exec_busKept other h)
  cases c with
  | powerOnReset p g => exact absurd ⟨p, g, .inl rfl⟩ noPower
  | lineBreak p g => exact execLineBreak_gains (fun power => noPower ⟨p, g, .inr ⟨rfl, power⟩⟩) h
  | revive => exact execRevive_gains h
  | visit => exact .of_bus (execVisit_bus h)
  | showStart => exact .of_bus (execShowStart_bus h)
  | pollAnswered => exact execPollAnswered_gains h
  | showAcknowledged => exact execShowAcknowledged_gains h
  | describeAnswered a => exact execDescribeAnswered_gains (fun _ on => .inl ⟨a, rfl, on⟩) h
  | inventoryAnswered a => exact execInventoryAnswered_gains (fun _ on => .inr ⟨a, rfl, on⟩) h
  | pollSilent | showSilent | describeSilent | inventorySilent => exact exec_silent_gains (by simp) h
  | _ => exact absurd rfl other

/-- Settles O6: a power-on reset makes every channel ABSENT, and any other command keeps to exec_gains. -/
theorem presenceIsGainedOnlyByDescribe : Obligations.PresenceIsGainedOnlyByDescribe := by
  intro c s t n h
  by_cases power : ∃ p g, PowersOn p g c s
  · obtain ⟨p, g, powers⟩ := power
    have reset : t.bus[n].presence = .absent := by rw [exec_powersOn_bus powers h n]; rfl
    exact ⟨fun _ present => absurd (reset.symm.trans present) nofun,
      fun _ _ => ⟨p, g, powers.imp_right fun ⟨breaks, starting, _⟩ => ⟨breaks, starting⟩⟩⟩
  · obtain ⟨present, absent⟩ := exec_gains power h n
    exact ⟨fun lost gained => (present gained).resolve_left lost, fun known gone => absurd (absent gone) known⟩

end Sys2Proof.Machine
end

section
/-! PROOFS. The GUARD line and its release timer (O38). -/

namespace Sys2Proof.Machine

variable {s : State}

/-! ### The release timer (R53, R161) -/

/-- An end time is reached once controller time is no longer before it (R53). -/
theorem reached_some_iff {now e : Time} : reached now (some e) = true ↔ before now e = false := by
  rw [reached, Bool.not_eq_true']

/-- The timer's expiry takes GUARD out of the hold set, a hold ending when HEAD is absent (R161, R163). -/
theorem expireGuard_form (guard : s.guard = true) :
    ∃ d, expireGuard s = { s with guardTimer := none, guard := false, disp := d } ∧
      (s.head = true → d = s.disp) ∧ (s.head = false → HoldEnded s { s with disp := d }) := by
  cases head : s.head with
  | true =>
    have stands : expireGuard s = { s with guardTimer := none, head := true, guard := false } := by
      rw [expireGuard, head, setHold_stands (by simp [State.held])]
    exact ⟨s.disp, by rw [stands, ← head], fun _ => rfl, nofun⟩
  | false =>
    obtain ⟨d, form, ended⟩ := holdEnds_form { s with guardTimer := none, head := false, guard := false }
    have ends : expireGuard s = { s with guardTimer := none, head := false, guard := false, disp := d } := by
      rw [expireGuard, head, setHold_ends (by simp [State.held, guard]) rfl, form]
    exact ⟨d, by rw [ends, ← head], nofun, fun _ => ended⟩

/-- GUARD_RELEASE_TIMER_EXPIRY takes a timer whose end is reached (R161). -/
theorem execGuardReleaseTimerExpiry_due {e : Time} (timer : s.guardTimer = some e)
    (due : before s.time e = false) : execGuardReleaseTimerExpiry s = .next (expireGuard s) :=
  if_pos (timer ▸ reached_some_iff.mpr due)

/-- GUARD_RELEASE_TIMER_EXPIRY is not due while controller time is before the timer's end (R53; log 7). -/
theorem execGuardReleaseTimerExpiry_before {e : Time} (timer : s.guardTimer = some e)
    (early : before s.time e = true) : execGuardReleaseTimerExpiry s = .fault .notDue :=
  if_neg (by rw [timer, reached_some_iff, early]; nofun)

/-- GUARD_RELEASE_TIMER_EXPIRY is not due when no timer runs (log 7). -/
theorem execGuardReleaseTimerExpiry_none (timer : s.guardTimer = none) :
    execGuardReleaseTimerExpiry s = .fault .notDue :=
  if_neg (by rw [timer]; nofun)

/-! ### The release of the line (R160, R161) -/

/-- A line that is not asserted has no release (log 21). -/
theorem execGuardRelease_not_asserted (line : s.guardLine = false) : execGuardRelease s = .next s :=
  if_neg (by rw [line]; nofun)

/-- A delay above 0 starts the timer and leaves the hold set as it is (R161). -/
theorem execGuardRelease_delayed (line : s.guardLine = true) (delay : 0 < s.guardSteps) :
    execGuardRelease s =
      .next { s with guardLine := false, guardTimer := some (ahead s.time s.guardUnits) } := by
  have units : s.guardUnits ≠ 0 := by
    rw [State.guardUnits]
    omega
  exact (if_pos line).trans (by simp only [if_neg units])

/-- A delay of 0 expires at the release itself (R53, R161). -/
theorem execGuardRelease_at_once (line : s.guardLine = true) (delay : s.guardSteps = 0) :
    execGuardRelease s = .next (expireGuard
      { s with guardLine := false, guardTimer := some (ahead s.time s.guardUnits) }) := by
  have units : s.guardUnits = 0 := by rw [State.guardUnits, delay]
  exact (if_pos line).trans (by simp only [if_pos units])

/-! ### The assertion of the line (R160) -/

/-- GUARD joins a hold set that is not empty: no hold begins (R157, R160). -/
theorem execGuardAssertion_held (held : s.held = true) :
    execGuardAssertion s = .next { s with guardLine := true, guardTimer := none, guard := true } :=
  congrArg Host.Outcome.next (setHold_stands (held.trans (Bool.or_true _).symm))

/-- GUARD alone makes the hold set not empty: a hold begins (R160, R162). -/
theorem execGuardAssertion_begins (free : s.held = false) :
    ∃ d, execGuardAssertion s =
        .next { s with guardLine := true, guardTimer := none, guard := true, test := none, disp := d } ∧
      HoldBegan s { s with disp := d } := by
  obtain ⟨d, form, began⟩ := holdBegins_form { s with guardLine := true, guardTimer := none, guard := true }
  have begins := setHold_begins (s := { s with guardLine := true, guardTimer := none }) (h := s.head)
    free (Bool.or_true _)
  exact ⟨d, congrArg Host.Outcome.next (begins.trans form), began⟩

/-! ### The obligation -/

/-- Settles O38: the assertion by whether the aisle is held, the release by the delay, the expiry by the
timer. -/
theorem guardLineHoldsTheAisle : Obligations.GuardLineHoldsTheAisle := by
  refine fun s => ⟨fun held => execGuardAssertion_held ((held_iff s).mpr held), fun head guard => ?begins,
    execGuardRelease_not_asserted, execGuardRelease_delayed, fun line guard delay => ?atOnce,
    execGuardReleaseTimerExpiry_none, fun _ => execGuardReleaseTimerExpiry_before,
    fun e timer due guard => ?expires⟩
  case begins =>
    obtain ⟨d, asserts, began⟩ := execGuardAssertion_begins (s := s) (by simp [State.held, head, guard])
    exact ⟨_, asserts, began, rfl⟩
  case atOnce =>
    obtain ⟨d, form, stands, ended⟩ := expireGuard_form
      (s := { s with guardLine := false, guardTimer := some (ahead s.time s.guardUnits) }) guard
    exact ⟨_, (execGuardRelease_at_once line delay).trans (congrArg _ form), rfl, stands, ended⟩
  case expires =>
    obtain ⟨d, form, stands, ended⟩ := expireGuard_form guard
    exact ⟨_, (execGuardReleaseTimerExpiry_due timer due).trans (congrArg _ form), rfl, stands, ended⟩

end Sys2Proof.Machine
end

section
/-! PROOFS. SETUP (O25), ASK SLOT and ASK TASK (O34). -/

namespace Sys2Proof.Machine

/-! ### SETUP (R169, R180) -/

/-- The clamping table of R180, value by value in the words of the statements. -/
theorem setupOp_eq (p : List Byte) :
    setupOp p =
      { settleMs := if 2550 < (wordAt p 0).toNat then 2550 else (wordAt p 0).toNat - (wordAt p 0).toNat % 10
        doneHoldS := if (byteAt p 2).toNat = 0 then 1 else (byteAt p 2).toNat
        probationS := if (byteAt p 3).toNat < 10 then 10 else (byteAt p 3).toNat
        guardSteps := if 100 < (byteAt p 4).toNat then 100 else (byteAt p 4).toNat
        beaconEnable := decide (byteAt p 5 ≠ 0) } := by
  unfold setupOp
  congr 1
  case e_settleMs => split <;> omega
  case e_doneHoldS => split <;> omega
  case e_probationS => split <;> omega
  case e_guardSteps => split <;> omega
  case e_beaconEnable => exact (decide_not ..).symm

/-- A state with the five parameters written (R180). -/
def withSetup (v : SetupValues) (s : State) : State :=
  { s with settleMs := v.settleMs, doneHoldS := v.doneHoldS, probationS := v.probationS,
           guardSteps := v.guardSteps, beaconEnable := v.beaconEnable }

theorem actSetup_eq (rx : RxFrame) (s : State) :
    actSetup (received .setup rx) s =
      (evalBeacon (withSetup (setupOp rx.payload) s), okWith (.setup (setupOp rx.payload))) := rfl

/-- The beacon goes by the new enable and the condition as it stands (R168, R169). -/
theorem evalBeacon_withSetup (v : SetupValues) (s : State) :
    (evalBeacon (withSetup v s)).beacon = true ↔ v.beaconEnable = true ∧ AttentionNeeded s :=
  beaconTrue_evalBeacon (withSetup v s)

/-- Settles O25: a SETUP by what its block leaves, a reset by its values. -/
theorem setupTakesClampedValues : Obligations.SetupTakesClampedValues := by
  constructor
  case left =>
    intro p g s
    obtain ⟨-, -, -, -, -, ⟨-, -, -, -, -, enable, -, -⟩, settle, doneHold, probation, guard⟩ :=
      resetValues_powerOn p g s
    exact ⟨_, rfl, settle, doneHold, probation, guard, enable⟩
  case right =>
    intro rx s ⟨accepted, addressed, room, running⟩ ms h p g v
    have taken : setupOp rx.payload = v := setupOp_eq rx.payload
    obtain ⟨q, d, e, answers⟩ := managementFrame_answers accepted addressed room (.inl running)
      (actSetup_eq rx s) ⟨rfl, rfl, rfl, rfl, rfl⟩
    rw [taken] at e answers
    have beacon := (evalBeacon_withSetup v s).trans (and_congr_left' decide_eq_true_iff)
    exact ⟨_, congrArg Host.Outcome.next e, rfl, beacon, answers⟩

/-! ### ASK SLOT and ASK TASK (R183, R184) -/

/-- A management frame whose block only reads is answered, and changes nothing. -/
theorem answeredOnly_of_reads {k : Kind} {rx : RxFrame} {act : Frame → State → State × Answer} {s : State}
    {b : AnswerBody} (actedOn : ActedOn k rx s)
    (run : exec (frameCommand k rx) s = .next (managementFrame k rx act s))
    (reads : act (received k rx) s = (s, okWith b)) : AnsweredOnly k rx .ok none b s := by
  obtain ⟨accepted, addressed, room, running⟩ := actedOn
  obtain ⟨q, d, e, answers⟩ :=
    managementFrame_answers accepted addressed room (.inl running) reads ⟨rfl, rfl, rfl, rfl, rfl⟩
  exact ⟨_, run.trans (congrArg _ e), rfl, answers⟩

/-- The view from a channel of the segment (R183). -/
theorem actAskSlot_channel {rx : RxFrame} {c : Channel} (named : c.val = (byteAt rx.payload 0).toNat) (s : State) :
    actAskSlot (received .askSlot rx) s = (s, okWith (.slot (slotOf s c))) := by
  have inside : (byteAt rx.payload 0).toNat < 64 := named ▸ c.isLt
  obtain rfl : c = ⟨(byteAt rx.payload 0).toNat, inside⟩ := Fin.ext named
  exact dif_pos inside

/-- A live record, wherever in the pool it stands, answers for its tag (R184). -/
theorem actAskTask_live {rx : RxFrame} {s : State} {x : Task}
    (found : findTag s.pool (wordAt rx.payload 0) = some x) :
    actAskTask (received .askTask rx) s = (s, okWith (.task x)) := by
  have payload : (received .askTask rx).payload = rx.payload := rfl
  rw [actAskTask, payload, found]

/-- A tag that no record of the pool carries is unknown (R184). -/
theorem actAskTask_unknown {rx : RxFrame} {s : State} (missing : findTag s.pool (wordAt rx.payload 0) = none) :
    actAskTask (received .askTask rx) s = (s, refuseWith .unknownTag none) := by
  have payload : (received .askTask rx).payload = rx.payload := rfl
  rw [actAskTask, payload, missing]

/-- Settles O34: a channel by its number; a tag by the one record that carries it, since no two share a tag
(R56). -/
theorem askSlotAndAskTaskAnswer : Obligations.AskSlotAndAskTaskAnswer := by
  refine fun rx s lists =>
    ⟨fun actedOn => ⟨fun above => ?noChannel, fun c named => ?slot⟩,
      fun actedOn => ⟨fun x live carries => ?task, fun missing => ?unknown⟩⟩
  case noChannel =>
    exact answeredOnly_of_refuses (act := actAskSlot) actedOn rfl (dif_neg (Nat.not_lt.mpr above))
  case slot => exact answeredOnly_of_reads actedOn rfl (actAskSlot_channel named s)
  case task =>
    have found : findTag s.pool (wordAt rx.payload 0) = some x := carries ▸ findTag_of_mem lists.tags live
    exact answeredOnly_of_reads actedOn rfl (actAskTask_live found)
  case unknown =>
    exact answeredOnly_of_refuses actedOn rfl (actAskTask_unknown (findTag_none.mpr missing))

end Sys2Proof.Machine
end

section
/-! PROOFS. The location field (O53): three bytes are one word of 24 bits, and that word is one location. -/

namespace Sys2Proof.Machine

/-! ### A word in three parts -/

section
variable {u v w : Nat}

theorem extractLsb'_first_part (a : BitVec u) (b : BitVec v) (c : BitVec w) :
    (a ++ b ++ c).extractLsb' (w + v) u = a := by
  rw [BitVec.extractLsb'_append_eq_of_le (Nat.le_add_right w v), Nat.add_sub_cancel_left,
    BitVec.extractLsb'_append_eq_left]

theorem extractLsb'_middle_part (a : BitVec u) (b : BitVec v) (c : BitVec w) :
    (a ++ b ++ c).extractLsb' w v = b := by
  rw [BitVec.extractLsb'_append_eq_of_le (Nat.le_refl w), Nat.sub_self, BitVec.extractLsb'_append_eq_right]

/-- A word is its three parts in order. -/
theorem append_three_parts (x : BitVec (u + v + w)) :
    x.extractLsb' (w + v) u ++ x.extractLsb' w v ++ x.extractLsb' 0 w = x := by
  rw [BitVec.extractLsb'_append_extractLsb'_eq_extractLsb' rfl, BitVec.extractLsb'_append_extractLsb']

end

/-! ### The word of a location field (R188) -/

/-- The three bytes of a payload from i on as one word, most significant byte first. -/
def fieldWord (p : List Byte) (i : Nat) : BitVec 24 := byteAt p i ++ byteAt p (i + 1) ++ byteAt p (i + 2)

/-- The location that a word of 24 bits names: bits 23 to 12, 11 to 7 and 6 to 0 (R188). -/
def locationOf (v : BitVec 24) : Location :=
  ⟨(v.extractLsb' 12 12).toNat, (v.extractLsb' 7 5).toNat, (v.extractLsb' 0 7).toNat⟩

theorem locationAt_eq (p : List Byte) (i : Nat) : locationAt p i = locationOf (fieldWord p i) := rfl

/-! ### Bytes and word -/

/-- A byte of a field is the same wherever in a payload the field stands. -/
theorem byteAt_field {field : List Byte} {k : Nat} (inside : k < field.length) (before after : List Byte) :
    byteAt (before ++ field ++ after) (before.length + k) = byteAt field k := by
  unfold byteAt
  rw [List.append_assoc, List.getD_append_right _ _ _ _ (Nat.le_add_right _ _), Nat.add_sub_cancel_left,
    List.getD_append _ _ _ _ inside]

/-- The bytes written for a location, read anywhere in a payload, are its word. -/
theorem fieldWord_locationBytes (l : Location) (before after : List Byte) :
    fieldWord (before ++ locationBytes l ++ after) before.length = locationWord l := by
  have read (k : Nat) (inside : k < 3) := byteAt_field (field := locationBytes l) inside before after
  calc fieldWord (before ++ locationBytes l ++ after) before.length
      = fieldWord (locationBytes l) 0 :=
        congrArg₂ (· ++ ·) (congrArg₂ (· ++ ·) (read 0 (by decide)) (read 1 (by decide))) (read 2 (by decide))
    _ = locationWord l := append_three_parts (u := 8) (v := 8) (w := 8) (locationWord l)

/-! ### Word and location -/

/-- A location in range is the one its word names. -/
theorem locationOf_locationWord {l : Location} (bay : l.bay < 4096) (level : l.level < 32) (pos : l.pos < 128) :
    locationOf (locationWord l) = l := by
  have bayBits : (locationWord l).extractLsb' 12 12 = BitVec.ofNat 12 l.bay := extractLsb'_first_part _ _ _
  have levelBits : (locationWord l).extractLsb' 7 5 = BitVec.ofNat 5 l.level := extractLsb'_middle_part _ _ _
  have posBits : (locationWord l).extractLsb' 0 7 = BitVec.ofNat 7 l.pos := BitVec.extractLsb'_append_eq_right
  rw [locationOf, bayBits, levelBits, posBits, BitVec.toNat_ofNat, BitVec.toNat_ofNat, BitVec.toNat_ofNat,
    Nat.mod_eq_of_lt bay, Nat.mod_eq_of_lt level, Nat.mod_eq_of_lt pos]

/-- Every word of 24 bits is the word of the location it names: every code names one (R188). -/
theorem locationWord_locationOf (v : BitVec 24) : locationWord (locationOf v) = v := by
  rw [locationWord, locationOf, BitVec.ofNat_toNat, BitVec.ofNat_toNat, BitVec.ofNat_toNat, BitVec.setWidth_eq,
    BitVec.setWidth_eq, BitVec.setWidth_eq]
  exact append_three_parts (u := 12) (v := 5) (w := 7) v

/-! ### The round trip -/

/-- The location that three bytes name has their word, and is written as them again. -/
theorem locationBytes_locationAt (x y z : Byte) : locationBytes (locationAt [x, y, z] 0) = [x, y, z] := by
  have word : locationWord (locationAt [x, y, z] 0) = x ++ y ++ z := locationWord_locationOf (x ++ y ++ z)
  have first : (x ++ y ++ z).extractLsb' 16 8 = x := extractLsb'_first_part x y z
  have second : (x ++ y ++ z).extractLsb' 8 8 = y := extractLsb'_middle_part x y z
  have third : (x ++ y ++ z).extractLsb' 0 8 = z := BitVec.extractLsb'_append_eq_right
  rw [locationBytes, word, first, second, third]

/-- Settles O53: both directions pass through the word of the field. -/
theorem locationFieldRoundTrip : Obligations.LocationFieldRoundTrip := by
  refine ⟨fun l before after bay level pos => ?read, locationBytes_locationAt⟩
  case read => rw [locationAt_eq, fieldWord_locationBytes, locationOf_locationWord bay level pos]

end Sys2Proof.Machine
end

section
/-! PROOFS. What a step runs (O1), and the events that cannot occur (O50; log 7). -/

namespace Sys2Proof.Machine

/-! ### One step -/

/-- A waiting command runs on the state with the rest of the queue. -/
theorem step_waiting (c : Instr) (rest : List Instr) (s : State) :
    step { s with pending := c :: rest } = exec c { s with pending := rest } := rfl

/-- With no command waiting the block idles (log 11). -/
theorem step_idle {s : State} (empty : s.pending = []) : step s = .next s := by
  rw [step, empty]

/-- Settles O1. -/
theorem stepRunsTheFrontCommand : Obligations.StepRunsTheFrontCommand :=
  ⟨step_waiting, fun _ => step_idle⟩

/-! ### Events of the string port -/

section
variable {s : State}

/-- A frame that passes the checks of its lane and finds room is not discarded (R4). -/
theorem execDiscardedFrame_room {lane : StringLane} {kind : Byte} {rx : RxFrame}
    (heard : ¬ (lane = .up ∧ s.terminal = true)) (good : passesChecks lane (frameOf kind rx))
    (room : ¬ bufferFull lane s) : execDiscardedFrame lane kind rx s = .fault .frameNotDiscarded := by
  cases lane with
  | down =>
    have room : s.downBuf.length < Config.relayRoom := Nat.not_le.mp room
    rw [passesChecks_down_iff] at good
    simp only [execDiscardedFrame, good, if_pos room]
  | up =>
    have heard : ¬ s.terminal = true := fun terminal => heard ⟨rfl, terminal⟩
    have room : s.upBuf.length < Config.relayRoom := Nat.not_le.mp room
    rw [passesChecks_up_iff] at good
    simp only [execDiscardedFrame, good, if_neg heard, if_pos room]

/-- The code of a listed kind is not unknown (R187). -/
theorem execUnknownKindFrame_listed (k : Kind) (rx : RxFrame) (s : State) :
    execUnknownKindFrame (kindCode k) rx s = .fault .kindIsKnown := by
  rw [execUnknownKindFrame, kindOf_kindCode, Option.isSome_some, if_pos rfl]

/-- No last byte leaves DNO while no frame is being sent on it (R6). -/
theorem execDownRelayComplete_nothing (absent : ∀ f, s.dno ≠ .sending f) :
    execDownRelayComplete s = .fault .nothingSent := by
  unfold execDownRelayComplete
  split
  next f on => exact absurd on (absent f)
  next => rfl
  next => rfl

/-- While no frame of a source is on UPO, what is on UPO has the other source. -/
theorem source_ne_of_absent {src : Source} {g : UpoSend} (absent : ∀ f, s.upo ≠ some { source := src, frame := f })
    (on : s.upo = some g) : g.source ≠ src := by
  rintro rfl
  exact absent g.frame on

/-- No report is sent out while none is on UPO (R18). -/
theorem execReportFrameSent_nothing (absent : ∀ f, s.upo ≠ some { source := .queue, frame := f }) :
    execReportFrameSent s = .fault .nothingSent := by
  unfold execReportFrameSent
  split
  next g on => exact if_neg (source_ne_of_absent absent on)
  next => rfl

/-- No relayed frame is sent out while none is on UPO (R16). -/
theorem execUpRelayComplete_nothing (absent : ∀ f, s.upo ≠ some { source := .relay, frame := f }) :
    execUpRelayComplete s = .fault .nothingSent := by
  unfold execUpRelayComplete
  split
  next g on => exact if_neg (source_ne_of_absent absent on)
  next => rfl

/-! ### Events of the shelf bus -/

/-- No exchange starts while one is in flight (R137). -/
theorem execVisit_occupied (occupied : s.exchange ≠ none) : execVisit s = .fault .busOccupied :=
  if_pos (Option.isSome_iff_ne_none.mpr occupied)

theorem execShowStart_occupied (occupied : s.exchange ≠ none) : execShowStart s = .fault .busOccupied :=
  if_pos (Option.isSome_iff_ne_none.mpr occupied)

end

/-- Settles O50. Each outcome of an exchange reads the exchange in flight and goes on with its own kind only. -/
theorem eventsThatCannotOccurStop : Obligations.EventsThatCannotOccurStop := by
  refine fun s => ⟨fun _ _ _ good room heard => execDiscardedFrame_room heard good room,
    fun k rx => execUnknownKindFrame_listed k rx s, execDownRelayComplete_nothing, execReportFrameSent_nothing,
    execUpRelayComplete_nothing, fun occupied => ⟨execVisit_occupied occupied, execShowStart_occupied occupied⟩,
    fun a => ?outcomes⟩
  case outcomes =>
    simp only [exec, execPollAnswered, execPollSilent, execShowAcknowledged, execShowSilent, execDescribeAnswered,
      execDescribeSilent, execInventoryAnswered, execInventorySilent]
    refine ⟨fun absent => ⟨?_, ?_⟩, fun absent => ⟨?_, ?_⟩, fun absent => ⟨?_, ?_⟩, fun absent => ⟨?_, ?_⟩⟩
    all_goals
      split
      next on => exact absurd on (by apply absent)
      next => rfl

end Sys2Proof.Machine
end

section
/-! PROOFS. What pool and slot lists keep through the operations that change them: the lists stand and every record
fits (O57). -/

namespace Sys2Proof.Machine

/-! ### Lists and records together -/

/-- The pool and the slot lists agree, and every record fits: the invariant of the task table. -/
structure TasksStand (s : State) : Prop where
  lists : ListsStand s
  records : ∀ x ∈ s.pool, RecordFits x

/-- ListsStand reads pool and slot lists alone. -/
theorem ListsStand.of_same {s t : State} (q : ListsStand s) (pool : t.pool = s.pool) (slots : t.slots = s.slots) :
    ListsStand t := by
  obtain ⟨tags, listed, stands, once, first, order⟩ := q
  constructor <;> simp only [pool, slots] <;> assumption

theorem TasksStand.of_same {s t : State} (q : TasksStand s) (pool : t.pool = s.pool) (slots : t.slots = s.slots) :
    TasksStand t := ⟨q.lists.of_same pool slots, by rw [pool]; exact q.records⟩

/-! ### Events that leave the slot lists (R46, R47, R51, R52, R57) -/

/-- What the slot lists read of a record stands: tag, channel, state and urgency. -/
def SamePlace (x y : Task) : Prop :=
  y.tag = x.tag ∧ y.channel = x.channel ∧ y.state = x.state ∧ y.urgency = x.urgency

/-- Every record is changed, but keeps its place. -/
theorem ListsStand.of_map {s t : State} {f : Task → Task} (q : ListsStand s) (pool : t.pool = s.pool.map f)
    (slots : t.slots = s.slots)
    (keeps : ∀ x, SamePlace x (f x)) : ListsStand t where
  tags := by
    have same : (fun x : Task => x.tag) ∘ f = fun x => x.tag := funext fun x => (keeps x).1
    rw [pool, List.map_map, same]
    exact q.tags
  listed := fun c tag listed => by
    obtain ⟨x, live, named, here, open'⟩ := q.listed c tag (slots ▸ listed)
    obtain ⟨sameTag, sameChannel, sameState, -⟩ := keeps x
    exact ⟨f x, pool ▸ List.mem_map_of_mem live, sameTag.trans named, sameChannel.trans here, sameState ▸ open'⟩
  stands := fun y mem open' => by
    obtain ⟨x, live, rfl⟩ := List.mem_map.mp (pool ▸ mem)
    obtain ⟨sameTag, sameChannel, sameState, -⟩ := keeps x
    simp only [sameTag, sameChannel, slots]
    exact q.stands x live (sameState ▸ open')
  once := fun c => slots ▸ q.once c
  first := fun y mem open' => by
    obtain ⟨x, live, rfl⟩ := List.mem_map.mp (pool ▸ mem)
    obtain ⟨sameTag, sameChannel, sameState, -⟩ := keeps x
    simp only [sameTag, sameChannel, sameState, slots]
    exact q.first x live (sameState ▸ open')
  order := fun c => by
    rw [slots]
    refine (q.order c).imp fun {_ _} ordered y' mem z' mem' named named' => ?_
    obtain ⟨y, live, rfl⟩ := List.mem_map.mp (pool ▸ mem)
    obtain ⟨z, live', rfl⟩ := List.mem_map.mp (pool ▸ mem')
    obtain ⟨tagY, -, -, urgencyY⟩ := keeps y
    obtain ⟨tagZ, -, -, urgencyZ⟩ := keeps z
    rw [urgencyY, urgencyZ]
    exact ordered y live z live' (tagY.symm.trans named) (tagZ.symm.trans named')

/-- DONE records leave the pool (R57, R73, R77). -/
theorem ListsStand.of_filter {s t : State} {keep : Task → Bool} (q : ListsStand s)
    (pool : t.pool = s.pool.filter keep) (slots : t.slots = s.slots)
    (done : ∀ x ∈ s.pool, keep x = false → x.state = .done) : ListsStand t := by
  have older {x : Task} (mem : x ∈ t.pool) : x ∈ s.pool := List.mem_of_mem_filter (pool ▸ mem)
  refine ⟨?_, fun c tag listed => ?_, fun x mem open' => ?_, fun c => ?_, fun x mem open' => ?_, fun c => ?_⟩
  · rw [pool]
    exact q.tags.sublist (List.filter_sublist.map _)
  · obtain ⟨x, live, named, here, open'⟩ := q.listed c tag (slots ▸ listed)
    have kept : keep x = true := by simpa using mt (done x live) open'
    exact ⟨x, pool ▸ List.mem_filter.mpr ⟨live, kept⟩, named, here, open'⟩
  · rw [slots]
    exact q.stands x (older mem) open'
  · rw [slots]
    exact q.once c
  · rw [slots]
    exact q.first x (older mem) open'
  · rw [slots]
    exact (q.order c).imp fun {_ _} ordered y mem z mem' => ordered y (older mem) z (older mem')

theorem TasksStand.of_filter {s t : State} {keep : Task → Bool} (q : TasksStand s)
    (pool : t.pool = s.pool.filter keep) (slots : t.slots = s.slots)
    (done : ∀ x ∈ s.pool, keep x = false → x.state = .done) : TasksStand t :=
  ⟨q.lists.of_filter pool slots done, fun x mem => q.records x (List.mem_of_mem_filter (pool ▸ mem))⟩

/-- Every record is changed to one that fits, and keeps its place. -/
theorem TasksStand.of_map {s t : State} {f : Task → Task} (q : TasksStand s) (pool : t.pool = s.pool.map f)
    (slots : t.slots = s.slots)
    (keeps : ∀ x, SamePlace x (f x))
    (fits : ∀ x ∈ s.pool, RecordFits (f x)) : TasksStand t := by
  refine ⟨q.lists.of_map pool slots keeps, fun y mem => ?_⟩
  obtain ⟨x, live, rfl⟩ := List.mem_map.mp (pool ▸ mem)
  exact fits x live

/-- The record of one tag is changed to one that fits, and keeps its place. -/
theorem TasksStand.of_editTask {s t : State} {f : Task → Task} {tag : Tag} (q : TasksStand s)
    (pool : t.pool = editTask tag f s.pool) (slots : t.slots = s.slots)
    (keeps : ∀ x, SamePlace x (f x))
    (fits : ∀ x ∈ s.pool, x.tag = tag → RecordFits (f x)) : TasksStand t := by
  refine q.of_map pool slots (fun x => ?_) fun x live => ?_
  · split
    · exact keeps x
    · exact ⟨rfl, rfl, rfl, rfl⟩
  · split
    · exact fits x live ‹_›
    · exact q.records x live

/-! ### Events that change the slot lists (R60, R82 to R85) -/

/-- Pool and slot lists agree as ListsStand says, but that a first entry may still be QUEUED: what an event
leaves before its first entries are made SHOWING (R60). -/
structure ListsAgree (pool : List Task) (slots : Tab 64 (List Tag)) : Prop where
  tags : (pool.map (·.tag)).Nodup
  listed : ∀ (c : Channel), ∀ tag ∈ slots[c], ∃ t ∈ pool, t.tag = tag ∧ t.channel = c ∧ t.state ≠ .done
  stands : ∀ t ∈ pool, t.state ≠ .done → t.tag ∈ slots[t.channel]
  once : ∀ c : Channel, slots[c].Nodup
  first : ∀ t ∈ pool, t.state = .showing → slots[t.channel].head? = some t.tag
  order : ∀ c : Channel, (slots[c].drop 1).Pairwise fun x y =>
    ∀ t ∈ pool, ∀ u ∈ pool, t.tag = x → u.tag = y → u.urgency ≤ t.urgency

/-- A first entry that is QUEUED becomes SHOWING (R60, R82). -/
def promoted (slots : Tab 64 (List Tag)) (x : Task) : Task :=
  if x.state = .queued ∧ slots[x.channel].head? = some x.tag then { x with state := .showing } else x

theorem promote_eq_map (slots : Tab 64 (List Tag)) (pool : List Task) :
    promote slots pool = pool.map (promoted slots) := rfl

/-- Promotion changes no field but the state. -/
theorem promoted_keeps (slots : Tab 64 (List Tag)) (x : Task) :
    (promoted slots x).tag = x.tag ∧ (promoted slots x).channel = x.channel ∧
      (promoted slots x).urgency = x.urgency ∧ ((promoted slots x).state = .done ↔ x.state = .done) := by
  unfold promoted
  split
  · rename_i waits
    exact ⟨rfl, rfl, rfl, by simp [waits.1]⟩
  · exact ⟨rfl, rfl, rfl, .rfl⟩

/-- After promotion the first entry of a list, and no other record, is SHOWING. -/
theorem ListsAgree.showing_promoted_iff {pool : List Task} {slots : Tab 64 (List Tag)} (q : ListsAgree pool slots)
    {x : Task} (live : x ∈ pool) (open' : x.state ≠ .done) :
    (promoted slots x).state = .showing ↔ slots[x.channel].head? = some x.tag := by
  unfold promoted
  split
  · rename_i waits
    exact iff_of_true rfl waits.2
  · rename_i notWaits
    refine ⟨q.first x live, fun head => ?_⟩
    cases state : x.state with
    | showing => rfl
    | queued => exact absurd ⟨state, head⟩ notWaits
    | done => exact absurd state open'

/-- Once its first entries are made SHOWING, the lists of an event stand. -/
theorem ListsAgree.restand {pool : List Task} {slots : Tab 64 (List Tag)} (q : ListsAgree pool slots) (s : State) :
    ListsStand (restand pool slots s) := by
  have origin {y : Task} (mem : y ∈ (Machine.restand pool slots s).pool) : ∃ x ∈ pool, promoted slots x = y :=
    List.mem_map.mp mem
  refine ⟨?_, fun c tag listed => ?_, fun y mem open' => ?_, q.once, fun y mem open' => ?_, fun c => ?_⟩
  · have same : (fun x : Task => x.tag) ∘ promoted slots = fun x => x.tag := funext fun x => (promoted_keeps slots x).1
    rw [restand_pool, promote_eq_map, List.map_map, same]
    exact q.tags
  · obtain ⟨x, live, named, here, open'⟩ := q.listed c tag listed
    obtain ⟨sameTag, sameChannel, -, done⟩ := promoted_keeps slots x
    exact ⟨_, List.mem_map_of_mem live, sameTag.trans named, sameChannel.trans here, mt done.mp open'⟩
  · obtain ⟨x, live, rfl⟩ := origin mem
    obtain ⟨sameTag, sameChannel, -, done⟩ := promoted_keeps slots x
    simp only [sameTag, sameChannel]
    exact q.stands x live (mt done.mpr open')
  · obtain ⟨x, live, rfl⟩ := origin mem
    obtain ⟨sameTag, sameChannel, -, done⟩ := promoted_keeps slots x
    simp only [sameTag, sameChannel]
    exact q.showing_promoted_iff live (mt done.mpr open')
  · refine (q.order c).imp fun {_ _} ordered y mem z mem' named named' => ?_
    obtain ⟨y, live, rfl⟩ := origin mem
    obtain ⟨z, live', rfl⟩ := origin mem'
    obtain ⟨tagY, -, urgencyY, -⟩ := promoted_keeps slots y
    obtain ⟨tagZ, -, urgencyZ, -⟩ := promoted_keeps slots z
    rw [urgencyY, urgencyZ]
    exact ordered y live z live' (tagY.symm.trans named) (tagZ.symm.trans named')

/-- A record fits as SHOWING where it fitted as QUEUED. -/
theorem RecordFits.promoted {x : Task} (q : RecordFits x) (slots : Tab 64 (List Tag)) :
    RecordFits (promoted slots x) := by
  unfold Machine.promoted
  split
  · rename_i waits
    have picked := q.picked
    have doneHold := q.doneHold
    rw [waits.1] at picked doneHold
    exact { q with queued := nofun, picked := picked, doneHold := doneHold.trans (by simp) }
  · exact q

/-- An event whose pool and lists agree, and whose records fit, leaves the task table standing. -/
theorem ListsAgree.tasksStand {pool : List Task} {slots : Tab 64 (List Tag)} (q : ListsAgree pool slots)
    (fits : ∀ x ∈ pool, RecordFits x) (s : State) : TasksStand (Machine.restand pool slots s) := by
  refine ⟨q.restand s, fun y mem => ?_⟩
  obtain ⟨x, live, rfl⟩ := List.mem_map.mp mem
  exact (fits x live).promoted slots

/-! ### A posted task (R67, R84, R110) -/

/-- A post adds its tag to the list of its channel, and to no other. -/
theorem mem_postTask_slots (x : Task) (s : State) (c : Channel) (tag : Tag) :
    tag ∈ (postTask x s).slots[c] ↔ tag ∈ s.slots[c] ∨ c = x.channel ∧ tag = x.tag := by
  by_cases here : c = x.channel
  · subst here
    rw [postTask_slots_self, (perm_insertSlot ..).mem_iff, List.mem_cons]
    simp [or_comm]
  · simp [postTask_slots_ne here, here]

/-- The urgency of every record of tag a is at least that of every record of tag b. -/
def AtLeastAsUrgent (pool : List Task) (a b : Tag) : Prop :=
  ∀ t ∈ pool, ∀ u ∈ pool, t.tag = a → u.tag = b → u.urgency ≤ t.urgency

/-- A new tag among the waiting entries leaves them ordered by urgency, highest first (R84). -/
theorem pairwise_insertWaiting {s : State} (lists : ListsStand s) {x : Task}
    (fresh : ∀ y ∈ s.pool, y.tag ≠ x.tag) {l : List Tag} (live : ∀ tag ∈ l, ∃ y ∈ s.pool, y.tag = tag)
    (ordered : l.Pairwise (AtLeastAsUrgent (s.pool ++ [x]))) :
    (insertWaiting s.pool x.urgency x.tag l).Pairwise (AtLeastAsUrgent (s.pool ++ [x])) := by
  have isNew {t : Task} (mem : t ∈ s.pool ++ [x]) (named : t.tag = x.tag) : t = x :=
    (List.mem_append.mp mem).elim (fun old => absurd named (fresh t old)) List.mem_singleton.mp
  have isOld {t y : Task} (old : y ∈ s.pool) (mem : t ∈ s.pool ++ [x]) (named : t.tag = y.tag) : t = y := by
    rcases List.mem_append.mp mem with older | new
    · exact eq_of_tag_eq lists.tags older old named
    · exact absurd (List.mem_singleton.mp new ▸ named).symm (fresh y old)
  obtain ⟨ahead, behind, rfl, joined, higher, lower⟩ := insertWaiting_split lists.tags x.urgency x.tag l
  obtain ⟨aheadOrdered, behindOrdered, across⟩ := List.pairwise_append.mp ordered
  have behindNew : ∀ b ∈ behind, AtLeastAsUrgent (s.pool ++ [x]) x.tag b := by
    cases behind with
    | nil => exact nofun
    | cons first rest =>
      obtain ⟨y, old, rfl⟩ := live first (by simp)
      have below := lower y old rfl
      obtain ⟨firstLeads, -⟩ := List.pairwise_cons.mp behindOrdered
      intro b mem t tMem u uMem named named'
      rw [isNew tMem named]
      rcases List.mem_cons.mp mem with rfl | later
      · rw [isOld old uMem named']
        exact below.le
      · exact (firstLeads b later y (List.mem_append_left _ old) u uMem rfl named').trans below.le
  rw [joined, List.pairwise_append, List.pairwise_cons]
  refine ⟨aheadOrdered, ⟨behindNew, behindOrdered⟩, fun a mem b mem' => ?_⟩
  rcases List.mem_cons.mp mem' with rfl | later
  · intro t tMem u uMem named named'
    obtain ⟨y, old, rfl⟩ := live a (List.mem_append_left _ mem)
    rw [isNew uMem named', isOld old tMem named]
    exact higher y old mem
  · exact across a mem b later

/-- Pool and lists after a post of a waiting record with a tag that is not live. -/
theorem ListsStand.posted {s : State} (q : ListsStand s) {x : Task} (waits : x.state = .queued)
    (fresh : ∀ y ∈ s.pool, y.tag ≠ x.tag) : ListsAgree (s.pool ++ [x]) (postTask x s).slots := by
  have notListed (c : Channel) : x.tag ∉ s.slots[c] := fun listed =>
    have ⟨y, live, named, _⟩ := q.listed c x.tag listed
    fresh y live named
  have open' : x.state ≠ .done := by simp [waits]
  have older (c : Channel) : (s.slots[c].drop 1).Pairwise (AtLeastAsUrgent (s.pool ++ [x])) := by
    refine (List.Pairwise.and_mem.mp (q.order c)).imp fun {a b} ⟨memA, memB, ordered⟩ t mem u mem' named named' => ?_
    have old {tag : Tag} {z : Task} (listed : tag ∈ s.slots[c].drop 1) (mem : z ∈ s.pool ++ [x])
        (named : z.tag = tag) : z ∈ s.pool :=
      (List.mem_append.mp mem).resolve_right fun new =>
        notListed c (List.mem_singleton.mp new ▸ named ▸ List.mem_of_mem_drop listed)
    exact ordered t (old memA mem named) u (old memB mem' named') named named'
  refine ⟨?_, fun c tag listed => ?_, fun y mem openY => ?_, fun c => ?_, fun y mem showing => ?_, fun c => ?_⟩
  · rw [List.map_append, List.map_singleton, List.nodup_append]
    refine ⟨q.tags, List.nodup_singleton _, fun tag old tag' new same => ?_⟩
    obtain ⟨y, live, rfl⟩ := List.mem_map.mp old
    exact fresh y live (same.trans (List.mem_singleton.mp new))
  · rcases (mem_postTask_slots x s c tag).mp listed with before | ⟨rfl, rfl⟩
    · obtain ⟨y, live, rest⟩ := q.listed c tag before
      exact ⟨y, List.mem_append_left _ live, rest⟩
    · exact ⟨x, by simp, rfl, rfl, open'⟩
  · rw [mem_postTask_slots]
    rcases List.mem_append.mp mem with live | new
    · exact .inl (q.stands y live openY)
    · obtain rfl := List.mem_singleton.mp new
      exact .inr ⟨rfl, rfl⟩
  · by_cases here : c = x.channel
    · subst here
      rw [postTask_slots_self, (perm_insertSlot ..).nodup_iff]
      exact List.nodup_cons.mpr ⟨notListed _, q.once _⟩
    · rw [postTask_slots_ne here]
      exact q.once c
  · rcases List.mem_append.mp mem with live | new
    · have openY : y.state ≠ .done := by simp [showing]
      have listed := q.stands y live openY
      rw [postTask_first, if_neg fun h => List.not_mem_nil (h.2 ▸ listed)]
      exact (q.first y live openY).mp showing
    · rw [List.mem_singleton.mp new, waits] at showing
      cases showing
  · by_cases here : c = x.channel
    · subst here
      rw [postTask_slots_self]
      have waiting := older x.channel
      have live := q.listed x.channel
      cases list : s.slots[x.channel] with
      | nil => exact .nil
      | cons first rest =>
        rw [list] at waiting live
        exact pairwise_insertWaiting q fresh (fun tag mem =>
          have ⟨y, live, named, _⟩ := live tag (List.mem_cons_of_mem _ mem)
          ⟨y, live, named⟩) waiting
    · rw [postTask_slots_ne here]
      exact older c

theorem TasksStand.postTask {s : State} (q : TasksStand s) {x : Task} (waits : x.state = .queued)
    (fresh : findTag s.pool x.tag = none) (fits : RecordFits x) : TasksStand (postTask x s) := by
  refine (q.lists.posted waits (findTag_none.mp fresh)).tasksStand (fun y mem => ?_) s
  rcases List.mem_append.mp mem with live | new
  · exact q.records y live
  · rwa [List.mem_singleton.mp new]

/-! ### Freed tasks (R57, R60) -/

/-- Over standing lists, a list after tasks are freed keeps the tags whose record stays. -/
theorem ListsStand.mem_freeListed {s : State} (q : ListsStand s) (p : Task → Bool) {x : Task} (live : x ∈ s.pool)
    (c : Channel) :
    x.tag ∈ (freeListed p s).slots[c] ↔ x.tag ∈ s.slots[c] ∧ leaves p x = false := by
  rw [freeListed_slots, List.mem_filter]
  refine and_congr_right fun _ => ?_
  simp only [Bool.not_eq_true', List.any_eq_false, Bool.and_eq_true, beq_iff_eq, not_and, Bool.not_eq_true]
  refine ⟨fun stays => stays x live rfl, fun stays y live' same => ?_⟩
  rwa [eq_of_tag_eq q.tags live' live same]

/-- Pool and lists after tasks are freed. -/
theorem ListsStand.freed {s : State} (q : ListsStand s) (p : Task → Bool) :
    ListsAgree (s.pool.filter fun x => !leaves p x) (freeListed p s).slots := by
  have kept {x : Task} : (x ∈ s.pool.filter fun x => !leaves p x) ↔ x ∈ s.pool ∧ leaves p x = false := by
    rw [List.mem_filter, Bool.not_eq_true']
  have sub (c : Channel) : (freeListed p s).slots[c].Sublist s.slots[c] := by
    rw [freeListed_slots]
    exact List.filter_sublist
  refine ⟨?_, fun c tag listed => ?_, fun x mem open' => ?_, fun c => ?_, fun x mem showing => ?_, fun c => ?_⟩
  · exact q.tags.sublist (List.filter_sublist.map _)
  · obtain ⟨x, live, rfl, rest⟩ := q.listed c tag ((sub c).mem listed)
    exact ⟨x, kept.mpr ⟨live, ((q.mem_freeListed p live c).mp listed).2⟩, rfl, rest⟩
  · obtain ⟨live, stays⟩ := kept.mp mem
    exact (q.mem_freeListed p live _).mpr ⟨q.stands x live open', stays⟩
  · exact (q.once c).sublist (sub c)
  · obtain ⟨live, stays⟩ := kept.mp mem
    have open' : x.state ≠ .done := by simp [showing]
    have first := (q.first x live open').mp showing
    have listed := (q.mem_freeListed p live x.channel).mpr ⟨q.stands x live open', stays⟩
    rw [freeListed_slots] at listed ⊢
    obtain ⟨rest, list⟩ := List.head?_eq_some_iff.mp first
    rw [list] at listed ⊢
    rw [List.filter_cons, if_pos (List.mem_filter.mp listed).2]
    rfl
  · refine ((q.order c).sublist ((sub c).drop 1)).imp fun {_ _} ordered y mem z mem' => ?_
    exact ordered y (kept.mp mem).1 z (kept.mp mem').1

theorem TasksStand.freeListed {s : State} (q : TasksStand s) (p : Task → Bool) : TasksStand (freeListed p s) :=
  (q.lists.freed p).tasksStand (fun x mem => q.records x (List.mem_of_mem_filter mem)) s

/-- A DONE record freed by its tag (R57, R73, R77). -/
theorem TasksStand.freeDone {s : State} (q : TasksStand s) {x : Task} (live : x ∈ s.pool) (done : x.state = .done) :
    TasksStand (freeDone x.tag s) :=
  q.of_filter (keep := (·.tag != x.tag)) rfl rfl fun y live' gone => by
    rw [eq_of_tag_eq q.lists.tags live' live (by simpa using gone)]
    exact done

/-! ### A confirmed task (R59, R126) -/

/-- The lists without the first entry of a channel. -/
theorem getElem_dropFirst (slots : Tab 64 (List Tag)) (c e : Channel) :
    (updTab slots c (·.drop 1))[e] = if e = c then slots[e].drop 1 else slots[e] := by
  by_cases here : e = c
  · rw [if_pos here, here]
    exact getElem_updTab_self slots c _
  · rw [if_neg here]
    exact getElem_updTab_ne slots (Ne.symm here) _

/-- Pool and lists after the first entry of a channel is confirmed and leaves its list. -/
theorem ListsStand.confirmed {s : State} (q : ListsStand s) {c : Channel} {x : Task} (live : x ∈ s.pool)
    (first : s.slots[c].head? = some x.tag) (hold : Nat) :
    ListsAgree (editTask x.tag (confirmTask hold) s.pool) (updTab s.slots c (·.drop 1)) := by
  obtain ⟨rfl, -⟩ := q.showing_of_first live first
  obtain ⟨rest, list⟩ := List.head?_eq_some_iff.mp first
  have once := q.once x.channel
  rw [list, List.nodup_cons] at once
  have sub (e : Channel) : ((updTab s.slots x.channel (·.drop 1))[e]).Sublist s.slots[e] := by
    rw [getElem_dropFirst]
    split
    · exact List.drop_sublist ..
    · exact .refl _
  have gone (e : Channel) : x.tag ∉ (updTab s.slots x.channel (·.drop 1))[e] := fun listed => by
    by_cases here : e = x.channel
    · subst here
      rw [getElem_dropFirst, if_pos rfl, list] at listed
      exact once.1 listed
    · obtain ⟨y, live', named, at', -⟩ := q.listed e x.tag ((sub e).mem listed)
      exact here (at'.symm.trans (congrArg _ (eq_of_tag_eq q.tags live' live named)))
  have origin {y : Task} (mem : y ∈ editTask x.tag (confirmTask hold) s.pool) :
      ∃ z ∈ s.pool, z.tag = y.tag ∧ z.urgency = y.urgency ∧ (y.state ≠ .done → y = z ∧ z.tag ≠ x.tag) := by
    obtain ⟨z, live', rfl⟩ := List.mem_map.mp mem
    split
    · exact ⟨z, live', rfl, rfl, fun open' => absurd rfl open'⟩
    · exact ⟨z, live', rfl, rfl, fun _ => ⟨rfl, ‹_›⟩⟩
  refine ⟨?_, fun e tag listed => ?_, fun y mem open' => ?_, fun e => ?_, fun y mem showsY => ?_, fun e => ?_⟩
  · rw [editTask_tags (f := confirmTask hold) fun _ => rfl]
    exact q.tags
  · obtain ⟨y, live', rfl, rest'⟩ := q.listed e tag ((sub e).mem listed)
    have other : y.tag ≠ x.tag := fun same => gone e (same ▸ listed)
    exact ⟨y, List.mem_map.mpr ⟨y, live', if_neg other⟩, rfl, rest'⟩
  · obtain ⟨z, live', -, -, stays⟩ := origin mem
    obtain ⟨rfl, other⟩ := stays open'
    have listed := q.stands y live' open'
    rw [getElem_dropFirst]
    split
    · rename_i here
      have at' : s.slots[y.channel] = x.tag :: rest := by simp only [here, list]
      rw [at'] at listed ⊢
      exact (List.mem_cons.mp listed).resolve_left other
    · exact listed
  · exact (q.once e).sublist (sub e)
  · have open' : y.state ≠ .done := by simp [showsY]
    obtain ⟨z, live', -, -, stays⟩ := origin mem
    obtain ⟨rfl, other⟩ := stays open'
    have head := (q.first y live' open').mp showsY
    rw [getElem_dropFirst, if_neg fun here => other ?_]
    · exact head
    · simp only [here, first] at head
      exact (Option.some.inj head).symm
  · refine ((q.order e).sublist ((sub e).drop 1)).imp fun {_ _} ordered y mem z mem' named named' => ?_
    obtain ⟨y', liveY, tagY, urgencyY, -⟩ := origin mem
    obtain ⟨z', liveZ, tagZ, urgencyZ, -⟩ := origin mem'
    rw [← urgencyY, ← urgencyZ]
    exact ordered y' liveY z' liveZ (tagY.trans named) (tagZ.trans named')

/-- A confirmed record fits: its A as picked, and a done hold within R180's range (R52, R59). -/
theorem RecordFits.confirmed {x : Task} (q : RecordFits x) {hold : Nat} (range : 1 ≤ hold ∧ hold ≤ 25500) :
    RecordFits (confirmTask hold x) :=
  { q with
    queued := nofun
    picked := rfl
    doneHold := iff_of_true rfl rfl
    doneHoldRange := fun _ same => Option.some.inj same ▸ range }

theorem TasksStand.takeConfirm {s : State} (q : TasksStand s) {c : Channel} {x : Task}
    (shown : showingOf s c = some x) (hold : 1 ≤ s.doneHoldS ∧ s.doneHoldS ≤ 255) :
    TasksStand (takeConfirm c x s) := by
  obtain ⟨live, first⟩ := showingOf_some shown
  have range : 1 ≤ s.doneHoldUnits ∧ s.doneHoldUnits ≤ 25500 := by
    unfold State.doneHoldUnits
    omega
  refine ((q.lists.confirmed live first s.doneHoldUnits).tasksStand (fun y mem => ?_) s).of_same rfl rfl
  obtain ⟨z, live', rfl⟩ := List.mem_map.mp mem
  split
  · exact (q.records z live').confirmed range
  · exact q.records z live'

/-! ### Records that are changed in place -/

/-- An adjust press on a SHOWING task (R46). -/
theorem RecordFits.adjusted {x : Task} (q : RecordFits x) (showing : x.state = .showing) :
    RecordFits (adjustTask x) := by
  have picked := q.picked
  rw [showing] at picked
  exact { q with
    adjustedAtMost := (Nat.sub_le _ _).trans q.adjustedAtMost
    queued := fun waits => absurd (showing.symm.trans waits) nofun
    picked := picked.trans (by simp [adjustTask, showing]) }

/-- An AMEND of a task that is not DONE (R47). -/
theorem RecordFits.amended {x : Task} (q : RecordFits x) (open' : x.state ≠ .done) {n : Nat} (within : n ≤ 9999) :
    RecordFits (amendTask n x) := by
  have picked := q.picked
  rw [if_neg open'] at picked
  refine { q with
    adjustedAtMost := ?_
    quantity := within
    queued := fun waits => ?_
    picked := picked.trans (if_neg open').symm }
  · show (if x.adjusted = true then min x.a n else n) ≤ n
    split
    · exact Nat.min_le_right ..
    · exact le_rfl
  · obtain ⟨-, untouched, young⟩ := q.queued waits
    exact ⟨by simp [amendTask, untouched], untouched, young⟩

/-- A deadline that runs out on a SHOWING task (R51, R74). -/
theorem RecordFits.lapsed {x : Task} (q : RecordFits x) (showing : x.state = .showing)
    (runs : x.remaining.isSome = true) : RecordFits (expireTask x) :=
  { q with
    queued := fun waits => absurd (showing.symm.trans waits) nofun
    remaining := iff_of_true rfl (q.remaining.mp runs)
    remainingAtMost := fun _ same => Option.some.inj same ▸ Nat.zero_le _
    expired := iff_of_true rfl rfl }

/-- A count lowered by an advance is 0 only where it was. -/
theorem map_lowered_eq_zero (o : Option Nat) : o.map lowered = some 0 ↔ o = some 0 := by
  cases o <;> simp [lowered_eq_zero]

/-- An advance on a record (R51, R52). -/
theorem RecordFits.ticked {x : Task} (q : RecordFits x) (s : State) : RecordFits (tickTask s x) := by
  have remaining : (tickTask s x).remaining = x.remaining ∨ (tickTask s x).remaining = x.remaining.map lowered :=
    (ite_eq_or_eq ..).symm
  have doneHold : (tickTask s x).doneHold = x.doneHold ∨ (tickTask s x).doneHold = x.doneHold.map lowered :=
    (ite_eq_or_eq ..).symm
  refine { q with
    remaining := ?_, remainingAtMost := fun n same => ?_, expired := ?_, doneHold := ?_
    doneHoldRange := fun n same => ?_ }
  · rcases remaining with e | e <;> rw [e]
    · exact q.remaining
    · rw [Option.isSome_map]
      exact q.remaining
  · rcases remaining with e | e <;> rw [e] at same
    · exact q.remainingAtMost n same
    · obtain ⟨m, before, rfl⟩ := Option.map_eq_some_iff.mp same
      exact (lowered_le m).trans (q.remainingAtMost m before)
  · rcases remaining with e | e <;> rw [e]
    · exact q.expired
    · rw [map_lowered_eq_zero]
      exact q.expired
  · rcases doneHold with e | e <;> rw [e]
    · exact q.doneHold
    · rw [Option.isSome_map]
      exact q.doneHold
  · rcases doneHold with e | e <;> rw [e] at same
    · exact q.doneHoldRange n same
    · obtain ⟨m, before, rfl⟩ := Option.map_eq_some_iff.mp same
      obtain ⟨pos, top⟩ := q.doneHoldRange m before
      exact ⟨Nat.pos_of_ne_zero (mt (lowered_eq_zero m).mp (Nat.pos_iff_ne_zero.mp pos)),
        (lowered_le m).trans top⟩

/-- A fresh record fits, where its quantity and deadline are in range (R54, R55). -/
theorem recordFits_newTask {tag : Tag} {loc : Location} {c : Channel} {lane : LaneNo} {urgency q deadline : Nat}
    {origin : Option RunOrigin} (quantity : q ≤ 9999) (top : deadline ≤ 255) :
    RecordFits (newTask tag loc c lane urgency q deadline origin) where
  adjustedAtMost := le_rfl
  quantity := quantity
  queued := fun _ => ⟨rfl, rfl, rfl⟩
  remaining := by
    simp only [newTask]
    split <;> simp_all
  remainingAtMost := fun n same => by
    simp only [newTask] at same ⊢
    split at same <;> cases same
    exact le_rfl
  deadline := top
  expired := by
    simp only [newTask]
    split <;> simp_all
  picked := rfl
  doneHold := iff_of_false nofun nofun
  doneHoldRange := nofun

end Sys2Proof.Machine
end

section
/-! PROOFS. Every command leaves the task table standing (O57): those that act on tasks by the operations they are
made of, all others because they leave pool and slot lists as they are. -/

namespace Sys2Proof.Machine

/-! ### Reception and dispatch (R4, R11, R13) -/

theorem TasksStand.receiveDown {s : State} (q : TasksStand s) {f : Frame} {act : Frame → State → State}
    (dispatched : TasksStand (act f s)) : TasksStand (receiveDown f act s) := by
  rcases receiveDown_cases f act s with ⟨_, e⟩ | ⟨_, _, e⟩ | ⟨_, _, e⟩
  · rw [e]
    exact q.of_same rfl rfl
  · rw [e]
    exact q.of_same rfl rfl
  · rwa [e]

theorem TasksStand.offer {s : State} (q : TasksStand s) (b : ReportBody) : TasksStand (offer b s) :=
  q.of_same (by simp) (by simp)

theorem TasksStand.relayDown {s : State} (q : TasksStand s) (f : Frame) : TasksStand (relayDown f s) :=
  q.of_same (by simp) (by simp)

theorem TasksStand.managementFrame {s : State} (q : TasksStand s) {k : Kind} {rx : RxFrame}
    {act : Frame → State → State × Answer} (acts : ∀ f, TasksStand (act f s).1) :
    TasksStand (managementFrame k rx act s) := by
  have answered (f : Frame) : TasksStand (answerFrame k (act f) s) := by
    unfold answerFrame
    split
    · split
      · exact q.of_same rfl rfl
      · exact (acts f).of_same rfl rfl
    · exact q
  refine q.receiveDown ?_
  unfold dispatchManagement
  split
  · exact answered _
  · exact (answered _).relayDown _
  · exact q.relayDown _

theorem TasksStand.passFrame {s : State} (q : TasksStand s) (k : Kind) (tag : Tag) (loc : Location) (f : Frame) :
    TasksStand (passFrame k tag loc f s) := by
  unfold Machine.passFrame
  split
  · exact q.offer _
  · exact q.relayDown f

theorem TasksStand.claimFrame {s : State} (q : TasksStand s) {k : Kind} {tag : Tag} {loc : Location} {room : Bool}
    {act : EntryNo → Channel → State → State} {f : Frame} (acts : ∀ i c, TasksStand (act i c s)) :
    TasksStand (claimFrame k tag loc room act f s) := by
  unfold Machine.claimFrame
  split
  · exact q.passFrame ..
  · split_ifs
    · exact (q.offer _).relayDown f
    · exact (acts ..).relayDown _
    · exact q.passFrame ..

/-! ### Task frames -/

theorem TasksStand.actPost {s : State} (q : TasksStand s) (p : List Byte) (i : EntryNo) (c : Channel) :
    TasksStand (actPost (postOp p) i c s) := by
  unfold Machine.actPost
  split
  · exact q.offer _
  · rename_i passes
    obtain ⟨-, -, fresh⟩ := room_of_postCheck passes
    have quantity : (postOp p).q ≤ 9999 := by
      have all := firstFailing_eq_none.mp passes
      simpa using all _ List.mem_cons_self
    exact q.postTask rfl fresh (recordFits_newTask quantity (Nat.le_of_lt_succ (byteAt p 8).isLt))

/-- A run posts quantities of its list, or 0 (R110). -/
theorem runQuantity_le {v : RunOp} (quantities : ∀ n ∈ v.quantities, n ≤ 9999) (k : Nat) :
    runQuantity v k ≤ 9999 := by
  have each (j : Nat) : v.quantities.getD j 0 ≤ 9999 := by
    rw [List.getD_eq_getElem?_getD]
    cases at' : v.quantities[j]? with
    | none => exact Nat.zero_le _
    | some n => exact quantities n (List.mem_of_getElem? at')
  unfold runQuantity
  split <;> exact each _

/-- The record a walk posts is a fresh one (R110). -/
theorem walkStep_post_eq {v : RunOp} {i : EntryNo} {k : Nat} {l : Location} {s : State} {x : Task}
    (h : walkStep v i k l s = .post x) :
    x = newTask (v.base + BitVec.ofNat 16 k) l (mapChannel s.ranges[i] l) v.lane v.urgency (runQuantity v k)
      v.deadline (some { base := v.base, step := k }) := by
  unfold walkStep at h
  extract_lets c at h
  split_ifs at h
  cases h
  rfl

theorem TasksStand.walk {v : RunOp} (quantities : ∀ n ∈ v.quantities, n ≤ 9999) (top : v.deadline ≤ 255)
    (i : EntryNo) (fuel k left : Nat) (l : Location) {s : State} (q : TasksStand s) :
    TasksStand (walk v i fuel k left l s).state := by
  induction fuel generalizing k left l s with
  | zero => exact q
  | succ fuel ih =>
    unfold Machine.walk
    split
    · exact q
    · split
      · exact q
      · exact ih _ _ _ q
    · rename_i x step
      obtain ⟨-, -, fresh, waits⟩ := walkStep_post step
      have fits : RecordFits x := walkStep_post_eq step ▸ recordFits_newTask (runQuantity_le quantities k) top
      have posted : TasksStand (Machine.postTask x s) := q.postTask waits fresh fits
      extract_lets s'
      split
      · exact posted
      · split
        · exact posted
        · exact ih _ _ _ posted

theorem TasksStand.actRun {s : State} (q : TasksStand s) (p : List Byte) (i : EntryNo) (c : Channel) :
    TasksStand (actRun (runOp p) i c s) := by
  unfold Machine.actRun
  split
  · exact q.offer _
  · rename_i passes
    have quantities : ∀ n ∈ (runOp p).quantities, n ≤ 9999 := by
      have all := firstFailing_eq_none.mp passes
      simp only [List.forall_mem_cons] at all
      obtain ⟨-, -, -, -, quantities, -⟩ := all
      simpa using quantities
    exact (TasksStand.walk quantities (Nat.le_of_lt_succ (byteAt p 7).isLt) i _ 0 _ _ q).of_same rfl rfl

theorem TasksStand.actAmend {s : State} (q : TasksStand s) (v : TagOp) (i : EntryNo) (c : Channel) :
    TasksStand (actAmend v i c s) := by
  unfold Machine.actAmend
  split
  · exact q.offer _
  · rename_i within
    split
    · exact q.offer _
    · rename_i x found
      obtain ⟨live, tag, -⟩ := findOn_some found
      have amended (open' : x.state ≠ .done) {t : State} (pool : t.pool = editTask v.tag (amendTask v.q) s.pool)
          (slots : t.slots = s.slots) : TasksStand t := by
        refine q.of_editTask pool slots (fun _ => ⟨rfl, rfl, rfl, rfl⟩) fun y live' named => ?_
        rw [eq_of_tag_eq q.lists.tags live' live (named.trans tag.symm)]
        exact (q.records x live).amended open' (Nat.le_of_not_lt within)
      split
      · exact q.offer _
      · exact amended (by simp [*]) rfl rfl
      · exact amended (by simp [*]) rfl rfl

theorem TasksStand.actWithdraw {s : State} (q : TasksStand s) (v : TagOp) (i : EntryNo) (c : Channel) :
    TasksStand (actWithdraw v i c s) := by
  unfold Machine.actWithdraw lateWithdraw
  split
  · exact q.offer _
  · obtain ⟨live, -, -⟩ := findOn_some ‹_›
    split
    · split
      · exact (q.freeDone live ‹_›).of_same rfl rfl
      · exact q.of_same rfl rfl
    · exact q.freeListed _
    · exact q.freeListed _

theorem TasksStand.actRelease {s : State} (q : TasksStand s) (v : TagOp) (i : EntryNo) (c : Channel) :
    TasksStand (actRelease v i c s) := by
  unfold Machine.actRelease
  split
  · exact q
  · obtain ⟨live, named, -⟩ := findOn_some ‹_›
    split
    · exact named ▸ q.freeDone live ‹_›
    · exact q.offer _
    · exact q.offer _

/-! ### Management frames -/

theorem TasksStand.actPurge {s : State} (q : TasksStand s) (f : Frame) : TasksStand (actPurge f s).1 := by
  unfold Machine.actPurge
  extract_lets b
  split
  · exact q.freeListed _
  · exact q

theorem TasksStand.actSweep {s : State} (q : TasksStand s) (f : Frame) : TasksStand (actSweep f s).1 := by
  unfold Machine.actSweep
  split
  · exact q
  · exact q.freeListed _
  · exact q.freeListed _

theorem actLanes_slots (f : Frame) (s : State) : (actLanes f s).1.slots = s.slots := by
  unfold actLanes
  extract_lets first w
  split
  · rfl
  · split
    · rfl
    · split <;> rfl

theorem actRanges_slots (f : Frame) (s : State) : (actRanges f s).1.slots = s.slots := by
  rcases actRanges_cases f s with e | ⟨_, _, e⟩ <;> rw [e]

theorem actLock_slots (f : Frame) (s : State) : (actLock f s).1.slots = s.slots := by
  rcases actLock_cases f s with e | e <;> rw [e]

theorem actHold_slots (f : Frame) (s : State) : (actHold f s).1.slots = s.slots := by
  unfold actHold
  split <;> simp

theorem actResume_slots (f : Frame) (s : State) : (actResume f s).1.slots = s.slots := by
  unfold actResume
  split <;> simp

theorem actRevive_slots (f : Frame) (s : State) : (actRevive f s).1.slots = s.slots := by
  unfold actRevive
  extract_lets b forced
  split
  · extract_lets c
    cases s.presenceOf c with
    | isolated => dsimp only; split <;> rfl
    | _ => rfl
  · rfl

theorem actTest_slots (f : Frame) (s : State) : (actTest f s).1.slots = s.slots := by
  unfold actTest
  split
  · rfl
  · split <;> rfl

theorem actAskSlot_slots (f : Frame) (s : State) : (actAskSlot f s).1.slots = s.slots := by
  unfold actAskSlot
  extract_lets b
  split <;> rfl

theorem actAskTask_slots (f : Frame) (s : State) : (actAskTask f s).1.slots = s.slots := by
  unfold actAskTask
  split <;> rfl

/-! ### The string port -/

theorem execLineBreak_tasksStand {p g : Bool} {s t : State} (q : TasksStand s)
    (h : execLineBreak p g s = .next t) : TasksStand t := by
  have reset : TasksStand (powerOn p g s) := ⟨listsStand_powerOn p g s, nofun⟩
  unfold execLineBreak at h
  split at h
  · cases h
    exact q
  · cases h
    split <;> exact reset.of_same rfl rfl

theorem execBreakRelayEnd_slots {s t : State} (h : execBreakRelayEnd s = .next t) : t.slots = s.slots := by
  unfold execBreakRelayEnd at h
  split at h <;> cases h
  rfl

theorem execTerminalStatusChange_slots {p : Bool} {s t : State} (h : execTerminalStatusChange p s = .next t) :
    t.slots = s.slots := by
  unfold execTerminalStatusChange at h
  split_ifs at h <;> cases h <;> rfl

theorem countCheck_slots (lane : StringLane) (s : State) : (countCheck lane s).slots = s.slots := by
  cases lane <;> rfl

theorem countOverrun_slots (lane : StringLane) (s : State) : (countOverrun lane s).slots = s.slots := by
  cases lane <;> rfl

theorem execFrameEarlyDiscard_slots {lane : StringLane} {cause : EarlyCause} {s t : State}
    (h : execFrameEarlyDiscard lane cause s = .next t) : t.slots = s.slots := by
  cases h
  split
  · exact countCheck_slots lane s
  · rfl

theorem execDiscardedFrame_slots {lane : StringLane} {kind : Byte} {rx : RxFrame} {s t : State}
    (h : execDiscardedFrame lane kind rx s = .next t) : t.slots = s.slots := by
  rcases execDiscardedFrame_cases h with rfl | rfl | rfl
  · rfl
  · exact countCheck_slots lane s
  · exact countOverrun_slots lane s

theorem execUnknownKindFrame_tasksStand {kind : Byte} {rx : RxFrame} {s t : State} (q : TasksStand s)
    (h : execUnknownKindFrame kind rx s = .next t) : TasksStand t := by
  unfold execUnknownKindFrame at h
  split at h <;> cases h
  exact q.receiveDown (q.relayDown _)

theorem dispatchEnumerate_slots (f : Frame) (s : State) : (dispatchEnumerate f s).slots = s.slots := by
  unfold dispatchEnumerate
  extract_lets n t
  split
  · split <;> rfl
  · exact relayDown_slots t _

theorem execUpFrameAccepted_slots {kind : Byte} {rx : RxFrame} {s t : State}
    (h : execUpFrameAccepted kind rx s = .next t) : t.slots = s.slots := by
  cases h
  split
  · rfl
  · rcases receiveUp_cases (frameOf kind rx) s with ⟨_, e⟩ | ⟨_, _, e⟩ | ⟨_, _, e⟩ <;> rw [e] <;> rfl

theorem execDownRelayStart_slots {rdy : Bool} {s t : State} (h : execDownRelayStart rdy s = .next t) :
    t.slots = s.slots := by
  unfold execDownRelayStart at h
  dsimp only at h
  split at h
  · cases h
    rfl
  · split at h <;> cases h <;> rfl

theorem execDownRelayComplete_slots {s t : State} (h : execDownRelayComplete s = .next t) : t.slots = s.slots := by
  unfold execDownRelayComplete at h
  split at h <;> cases h
  rfl

theorem execUpMergeGrant_slots {rdy : Bool} {s t : State} (h : execUpMergeGrant rdy s = .next t) :
    t.slots = s.slots := by
  unfold execUpMergeGrant at h
  dsimp only at h
  split at h
  · split at h <;> cases h <;> rfl
  · cases h
    rfl

theorem execReportFrameSent_slots {s t : State} (h : execReportFrameSent s = .next t) : t.slots = s.slots := by
  unfold execReportFrameSent at h
  split at h
  · split at h <;> cases h
    rfl
  · cases h

theorem execUpRelayComplete_slots {s t : State} (h : execUpRelayComplete s = .next t) : t.slots = s.slots := by
  unfold execUpRelayComplete at h
  split at h
  · split at h <;> cases h
    rfl
  · cases h

/-! ### Timers and the GUARD line -/

/-- A task whose remaining time is about to run out is found SHOWING, with a remaining time. -/
def Lapsable (s : State) (x : Task) : Prop :=
  ∀ y ∈ s.pool, y.tag = x.tag → y.state = .showing ∧ y.remaining.isSome = true

@[simp] theorem expireDeadline_pool (x : Task) (s : State) :
    (expireDeadline x s).pool = editTask x.tag expireTask s.pool := by simp [expireDeadline]

theorem TasksStand.expireDeadline {s : State} (q : TasksStand s) {x : Task} (lapsable : Lapsable s x) :
    TasksStand (expireDeadline x s) := by
  refine q.of_editTask (expireDeadline_pool x s) (by simp [Machine.expireDeadline])
    (fun _ => ⟨rfl, rfl, rfl, rfl⟩) fun y live named => ?_
  obtain ⟨showing, runs⟩ := lapsable y live named
  exact (q.records y live).lapsed showing runs

/-- The expiry of one task leaves every other one that is about to expire as it was. -/
theorem Lapsable.after_expireDeadline {s : State} {x : Task} (h : Lapsable s x) (w : Task) :
    Lapsable (Machine.expireDeadline w s) x := by
  intro y mem named
  rw [expireDeadline_pool] at mem
  obtain ⟨z, live, rfl⟩ := List.mem_map.mp mem
  have sameTag : (if z.tag = w.tag then expireTask z else z).tag = z.tag := by split <;> rfl
  obtain ⟨showing, runs⟩ := h z live (sameTag.symm.trans named)
  split
  · exact ⟨showing, rfl⟩
  · exact ⟨showing, runs⟩

/-- The deadlines due are taken one after the other (log 8). -/
theorem TasksStand.expireDeadlines (l : List Task) {s : State} (q : TasksStand s) (lapsable : ∀ x ∈ l, Lapsable s x) :
    TasksStand (l.foldl (fun s x => Machine.expireDeadline x s) s) := by
  induction l generalizing s with
  | nil => exact q
  | cons x xs ih =>
    refine ih (q.expireDeadline (lapsable x List.mem_cons_self)) fun y mem => ?_
    exact (lapsable y (List.mem_cons_of_mem _ mem)).after_expireDeadline x

/-- A deadline that is due is found SHOWING, with a remaining time. -/
theorem ListsStand.lapsable {s : State} (q : ListsStand s) {x : Task} (live : x ∈ s.pool)
    (due : s.deadlineDue x = true) : Lapsable s x := by
  obtain ⟨showing, last, -⟩ := (deadlineDue_iff s x).mp due
  intro y live' named
  rw [eq_of_tag_eq q.tags live' live named]
  exact ⟨showing, by rw [last]; rfl⟩

@[simp] theorem expireGuard_slots (s : State) : (expireGuard s).slots = s.slots := by simp [expireGuard]

theorem TasksStand.foldl {α : Type} {f : State → α → State}
    (same : ∀ s x, (f s x).pool = s.pool ∧ (f s x).slots = s.slots) (l : List α) {s : State} (q : TasksStand s) :
    TasksStand (l.foldl f s) := by
  induction l generalizing s with
  | nil => exact q
  | cons x xs ih => exact ih (q.of_same (same s x).1 (same s x).2)

/-- The expiries an advance takes first (log 8). -/
theorem TasksStand.flushExpiries {s : State} (q : TasksStand s) : TasksStand (flushExpiries s) := by
  unfold Machine.flushExpiries
  extract_lets expired freed blinks probations tested
  have qExpired : TasksStand expired := TasksStand.expireDeadlines _ q fun x mem =>
    have ⟨live, due⟩ := List.mem_filter.mp mem
    q.lists.lapsable live due
  have qFreed : TasksStand freed := qExpired.of_filter rfl rfl fun x _ gone => by
    have due : expired.holdDue x = true := by simpa using gone
    exact ((holdDue_iff expired x).mp due).1
  have qBlinks : TasksStand blinks :=
    TasksStand.foldl (f := fun s c => expireBlink c s) (fun _ _ => ⟨rfl, rfl⟩) _ qFreed
  have qProbations : TasksStand probations :=
    TasksStand.foldl (f := fun s c => expireProbation c s) (fun _ _ => ⟨rfl, rfl⟩) _ qBlinks
  have qTested : TasksStand tested := by
    unfold tested
    split
    · exact qProbations.of_same rfl rfl
    · exact qProbations
  split
  · exact qTested.of_same (by simp) (by simp)
  · exact qTested

theorem TasksStand.tick {s : State} (q : TasksStand s) : TasksStand (tick s) :=
  q.of_map (f := tickTask s) rfl rfl (fun _ => ⟨rfl, rfl, rfl, rfl⟩) fun x live => (q.records x live).ticked s

theorem execDeadlineExpiry_tasksStand {c : Channel} {s t : State} (q : TasksStand s)
    (h : execDeadlineExpiry c s = .next t) : TasksStand t := by
  unfold execDeadlineExpiry at h
  split at h
  · rename_i x shown
    obtain ⟨live, -⟩ := showingOf_some shown
    split at h <;> cases h
    exact q.expireDeadline (q.lists.lapsable live ‹_›)
  · cases h

theorem execDoneHoldExpiry_tasksStand {tag : Tag} {s t : State} (q : TasksStand s)
    (h : execDoneHoldExpiry tag s = .next t) : TasksStand t := by
  unfold execDoneHoldExpiry at h
  split at h
  · rename_i x found
    obtain ⟨live, rfl⟩ := findTag_some found
    split at h <;> cases h
    exact q.freeDone live ((holdDue_iff s x).mp ‹_›).1
  · cases h

theorem execWaitBlinkExpiry_slots {c : Channel} {s t : State} (h : execWaitBlinkExpiry c s = .next t) :
    t.slots = s.slots := by
  unfold execWaitBlinkExpiry at h
  split at h <;> cases h
  rfl

theorem execProbationExpiry_slots {c : Channel} {s t : State} (h : execProbationExpiry c s = .next t) :
    t.slots = s.slots := by
  unfold execProbationExpiry at h
  split at h <;> cases h
  rfl

theorem execLampTestExpiry_slots {s t : State} (h : execLampTestExpiry s = .next t) : t.slots = s.slots := by
  unfold execLampTestExpiry at h
  split at h <;> cases h
  rfl

theorem execGuardRelease_slots {s t : State} (h : execGuardRelease s = .next t) : t.slots = s.slots := by
  unfold execGuardRelease at h
  split at h
  · extract_lets u at h
    cases h
    split
    · exact expireGuard_slots u
    · rfl
  · cases h
    rfl

theorem execGuardReleaseTimerExpiry_slots {s t : State} (h : execGuardReleaseTimerExpiry s = .next t) :
    t.slots = s.slots := by
  unfold execGuardReleaseTimerExpiry at h
  split at h <;> cases h
  exact expireGuard_slots s

/-! ### The shelf bus -/

theorem visitRunning_slots (s : State) : (visitRunning s).slots = s.slots := by
  unfold visitRunning
  split <;> rfl

theorem execVisit_slots {s t : State} (h : execVisit s = .next t) : t.slots = s.slots := by
  unfold execVisit at h
  split_ifs at h
  · cases h
    rfl
  · split at h <;> cases h
    · rfl
    · exact visitRunning_slots s

theorem execShowStart_slots {s t : State} (h : execShowStart s = .next t) : t.slots = s.slots := by
  unfold execShowStart at h
  split_ifs at h
  · cases h
    rfl
  · split at h
    · cases h
      rfl
    · split at h <;> cases h
      rfl

/-- An adjust press lowers A of the SHOWING task, or is ignored or set aside (R46, R128). -/
theorem TasksStand.adjustPress {s : State} (q : TasksStand s) (c : Channel) : TasksStand (adjustPress c s) := by
  unfold Machine.adjustPress
  split
  · exact q
  · split
    · exact q
    · rename_i x shown
      obtain ⟨live, first⟩ := showingOf_some shown
      obtain ⟨-, showing⟩ := q.lists.showing_of_first live first
      split_ifs
      · exact q
      · exact q
      · refine q.of_editTask rfl rfl (fun _ => ⟨rfl, rfl, rfl, rfl⟩) fun y live' named => ?_
        rw [eq_of_tag_eq q.lists.tags live' live named]
        exact (q.records x live).adjusted showing

/-- A confirm press is taken, or leaves pool and lists (R121). -/
theorem TasksStand.confirmPress {s : State} (q : TasksStand s) (hold : 1 ≤ s.doneHoldS ∧ s.doneHoldS ≤ 255)
    (c : Channel) : TasksStand (confirmPress c s) := by
  unfold Machine.confirmPress
  split
  · exact q
  · split
    · exact q.offer _
    · split_ifs
      · exact q.offer _
      · exact q.of_same rfl rfl
      · exact q.takeConfirm ‹_› hold

@[simp] theorem adjustPress_doneHoldS (c : Channel) (s : State) : (adjustPress c s).doneHoldS = s.doneHoldS := by
  rcases adjustPress_cases c s with same | ⟨x, taken⟩
  · rw [same]
  · rw [taken]
    rfl

theorem TasksStand.reading {s : State} (q : TasksStand s) (hold : 1 ≤ s.doneHoldS ∧ s.doneHoldS ≤ 255)
    (c : Channel) (confirm adjust : KeyLevel) : TasksStand (reading c confirm adjust s) := by
  have read : TasksStand (onBus c (keysRead confirm adjust) s) := q.of_same rfl rfl
  have before : TasksStand (beforeConfirm c confirm adjust s) ∧
      (beforeConfirm c confirm adjust s).doneHoldS = s.doneHoldS := by
    rw [beforeConfirm_eq]
    split
    · exact ⟨read.adjustPress c, adjustPress_doneHoldS ..⟩
    · exact ⟨read, rfl⟩
  rw [reading_eq]
  split
  · exact before.1.confirmPress (by rw [before.2]; exact hold) c
  · exact before.1

theorem execPollAnswered_tasksStand {a : List Byte} {s t : State} (q : TasksStand s) (setup : SetupFits s)
    (h : execPollAnswered a s = .next t) : TasksStand t := by
  unfold execPollAnswered at h
  split at h
  · rename_i c _
    have ended : TasksStand (answered c (endVisit s)) := q.of_same rfl rfl
    split at h <;> cases h
    · exact ended.reading setup.doneHold ..
    · exact q.of_same (by simp) (by simp)
  · cases h

theorem execPollSilent_slots {s t : State} (h : execPollSilent s = .next t) : t.slots = s.slots := by
  unfold execPollSilent at h
  split at h <;> cases h
  simp

theorem showFails_slots (c : Channel) (s : State) : (showFails c s).slots = s.slots := by simp [showFails]

theorem execShowAcknowledged_slots {a : List Byte} {s t : State} (h : execShowAcknowledged a s = .next t) :
    t.slots = s.slots := by
  unfold execShowAcknowledged at h
  split at h
  · split at h <;> cases h
    · rfl
    · exact showFails_slots ..
  · cases h

theorem execShowSilent_slots {s t : State} (h : execShowSilent s = .next t) : t.slots = s.slots := by
  unfold execShowSilent at h
  split at h <;> cases h
  exact showFails_slots ..

theorem execDescribeAnswered_slots {a : List Byte} {s t : State} (h : execDescribeAnswered a s = .next t) :
    t.slots = s.slots := by
  unfold execDescribeAnswered at h
  split at h
  · split at h <;> cases h <;> simp [revived]
  · cases h

theorem execDescribeSilent_slots {s t : State} (h : execDescribeSilent s = .next t) : t.slots = s.slots := by
  unfold execDescribeSilent at h
  split at h <;> cases h
  simp

@[simp] theorem inventoryMoves_slots (c : Channel) (s : State) : (inventoryMoves c s).slots = s.slots := by
  unfold inventoryMoves
  split <;> rfl

theorem inventoryFails_slots (c : Channel) (s : State) : (inventoryFails c s).slots = s.slots := by
  unfold inventoryFails
  split <;> simp

theorem execInventoryAnswered_slots {a : List Byte} {s t : State} (h : execInventoryAnswered a s = .next t) :
    t.slots = s.slots := by
  unfold execInventoryAnswered at h
  split at h
  · split at h <;> cases h
    · simp
    · exact inventoryFails_slots ..
  · cases h

theorem execInventorySilent_slots {s t : State} (h : execInventorySilent s = .next t) : t.slots = s.slots := by
  unfold execInventorySilent at h
  split at h <;> cases h
  exact inventoryFails_slots ..

/-! ### Every command -/

theorem exec_tasksStand {i : Instr} {s t : State} (q : TasksStand s) (setup : SetupFits s)
    (h : exec i s = .next t) : TasksStand t := by
  cases i with
  | powerOnReset p g => cases h; exact ⟨listsStand_powerOn p g s, nofun⟩
  | lineBreak => exact execLineBreak_tasksStand q h
  | breakRelayEnd => exact q.of_same (execBreakRelayEnd_pool h) (execBreakRelayEnd_slots h)
  | terminalStatusChange => exact q.of_same (execTerminalStatusChange_pool h) (execTerminalStatusChange_slots h)
  | frameEarlyDiscard => exact q.of_same (execFrameEarlyDiscard_pool h) (execFrameEarlyDiscard_slots h)
  | discardedFrame => exact q.of_same (execDiscardedFrame_pool h) (execDiscardedFrame_slots h)
  | unknownKindFrame => exact execUnknownKindFrame_tasksStand q h
  | upiSpacing => cases h; exact q
  | post rx => cases h; exact q.receiveDown (q.claimFrame (q.actPost rx.payload))
  | run rx => cases h; exact q.receiveDown (q.claimFrame (q.actRun rx.payload))
  | amend => cases h; exact q.receiveDown (q.claimFrame (q.actAmend _))
  | withdraw => cases h; exact q.receiveDown (q.claimFrame (q.actWithdraw _))
  | release => cases h; exact q.receiveDown (q.claimFrame (q.actRelease _))
  | enumerate => cases h; exact q.receiveDown (q.of_same (dispatchEnumerate_pool ..) (dispatchEnumerate_slots ..))
  | setup => cases h; exact q.managementFrame fun _ => q.of_same rfl rfl
  | lanes => cases h; exact q.managementFrame fun f => q.of_same (actLanes_pool f s) (actLanes_slots f s)
  | ranges => cases h; exact q.managementFrame fun f => q.of_same (actRanges_pool f s) (actRanges_slots f s)
  | lock => cases h; exact q.managementFrame fun f => q.of_same (actLock_pool f s) (actLock_slots f s)
  | purge => cases h; exact q.managementFrame q.actPurge
  | sweep => cases h; exact q.managementFrame q.actSweep
  | hold => cases h; exact q.managementFrame fun f => q.of_same (actHold_pool f s) (actHold_slots f s)
  | resume => cases h; exact q.managementFrame fun f => q.of_same (actResume_pool f s) (actResume_slots f s)
  | revive => cases h; exact q.managementFrame fun f => q.of_same (actRevive_pool f s) (actRevive_slots f s)
  | test => cases h; exact q.managementFrame fun f => q.of_same (actTest_pool f s) (actTest_slots f s)
  | askStatus => cases h; exact q.managementFrame fun _ => q.of_same rfl rfl
  | askSlot => cases h; exact q.managementFrame fun f => q.of_same (actAskSlot_pool f s) (actAskSlot_slots f s)
  | askTask => cases h; exact q.managementFrame fun f => q.of_same (actAskTask_pool f s) (actAskTask_slots f s)
  | upFrameAccepted => exact q.of_same (execUpFrameAccepted_pool h) (execUpFrameAccepted_slots h)
  | downRelayStart => exact q.of_same (execDownRelayStart_pool h) (execDownRelayStart_slots h)
  | downRelayComplete => exact q.of_same (execDownRelayComplete_pool h) (execDownRelayComplete_slots h)
  | upMergeGrant => exact q.of_same (execUpMergeGrant_pool h) (execUpMergeGrant_slots h)
  | reportFrameSent => exact q.of_same (execReportFrameSent_pool h) (execReportFrameSent_slots h)
  | upRelayComplete => exact q.of_same (execUpRelayComplete_pool h) (execUpRelayComplete_slots h)
  | timeAdvance => cases h; exact q.flushExpiries.tick
  | deadlineExpiry => exact execDeadlineExpiry_tasksStand q h
  | doneHoldExpiry => exact execDoneHoldExpiry_tasksStand q h
  | waitBlinkExpiry => exact q.of_same (execWaitBlinkExpiry_pool h) (execWaitBlinkExpiry_slots h)
  | probationExpiry => exact q.of_same (execProbationExpiry_pool h) (execProbationExpiry_slots h)
  | lampTestExpiry => exact q.of_same (execLampTestExpiry_pool h) (execLampTestExpiry_slots h)
  | guardAssertion => cases h; exact q.of_same (by simp) (by simp)
  | guardRelease => exact q.of_same (execGuardRelease_pool h) (execGuardRelease_slots h)
  | guardReleaseTimerExpiry =>
    exact q.of_same (execGuardReleaseTimerExpiry_pool h) (execGuardReleaseTimerExpiry_slots h)
  | visit => exact q.of_same (execVisit_pool h) (execVisit_slots h)
  | showStart => exact q.of_same (execShowStart_pool h) (execShowStart_slots h)
  | pollAnswered => exact execPollAnswered_tasksStand q setup h
  | pollSilent => exact q.of_same (execPollSilent_pool h) (execPollSilent_slots h)
  | showAcknowledged => exact q.of_same (execShowAcknowledged_pool h) (execShowAcknowledged_slots h)
  | showSilent => exact q.of_same (execShowSilent_pool h) (execShowSilent_slots h)
  | describeAnswered => exact q.of_same (execDescribeAnswered_pool h) (execDescribeAnswered_slots h)
  | describeSilent => exact q.of_same (execDescribeSilent_pool h) (execDescribeSilent_slots h)
  | inventoryAnswered => exact q.of_same (execInventoryAnswered_pool h) (execInventoryAnswered_slots h)
  | inventorySilent => exact q.of_same (execInventorySilent_pool h) (execInventorySilent_slots h)

/-- Settles O57, by the invariant of the task table that every command keeps. -/
theorem everyStepKeepsTheLists : Obligations.EveryStepKeepsTheLists := by
  intro s t lists records setup h
  have q : TasksStand s := ⟨lists, records⟩
  have kept : TasksStand t := by
    unfold step at h
    split at h
    · cases h
      exact q
    · rename_i c rest _
      have q' : TasksStand { s with pending := rest } := q.of_same rfl rfl
      exact exec_tasksStand q' ⟨setup.settle, setup.doneHold, setup.probation, setup.guard⟩ h
  exact ⟨kept.lists, kept.records⟩

end Sys2Proof.Machine
end

section
/-! PROOFS. Stepping a run through an entry's rectangle (O52), and its channel mapping (O51). -/

namespace Sys2Proof.Machine

/-! ### Stepping (R42, R43) -/

/-- m follows l in the rectangle: at the next position, else at the next level, else in the next bay, the lower
fields at their start (R42). -/
def Follows (e : RangeEntry) (l m : Location) : Prop :=
  (l.pos < e.posHi ∧ m = ⟨l.bay, l.level, l.pos + 1⟩) ∨
  (l.pos = e.posHi ∧ l.level < e.levHi ∧ m = ⟨l.bay, l.level + 1, e.posLo⟩) ∨
  (l.pos = e.posHi ∧ l.level = e.levHi ∧ l.bay < e.bayHi ∧ m = ⟨l.bay + 1, e.levLo, e.posLo⟩)

/-- Ascending, the next location is the one that follows, and lies within the bounds (R42). -/
theorem nextLocation_ascending_iff {e : RangeEntry} {l : Location} (within : inBounds e l = true) (m : Location) :
    nextLocation .ascending e l = some m ↔ inBounds e m = true ∧ Follows e l m := by
  obtain ⟨bay, level, pos⟩ := l
  obtain ⟨bay', level', pos'⟩ := m
  simp only [inBounds_iff] at within ⊢
  simp only [nextLocation, Follows, Location.mk.injEq]
  split_ifs <;> simp <;> omega

/-- Descending, the next location is the one that it follows, and lies within the bounds (R43). -/
theorem nextLocation_descending_iff {e : RangeEntry} {m : Location} (within : inBounds e m = true) (l : Location) :
    nextLocation .descending e m = some l ↔ inBounds e l = true ∧ Follows e l m := by
  obtain ⟨bay, level, pos⟩ := l
  obtain ⟨bay', level', pos'⟩ := m
  simp only [inBounds_iff] at within ⊢
  simp only [nextLocation, Follows, Location.mk.injEq]
  split_ifs <;> simp <;> omega

/-- Every location stepped to lies within the bounds (R42, R43). -/
theorem inBounds_nextLocation {d : Direction} {e : RangeEntry} {l m : Location} (within : inBounds e l = true)
    (next : nextLocation d e l = some m) : inBounds e m = true := by
  cases d with
  | ascending => exact ((nextLocation_ascending_iff within m).mp next).1
  | descending => exact ((nextLocation_descending_iff within m).mp next).1

/-- The walk ends at the last location upward, and at the first downward. -/
theorem nextLocation_eq_none_iff {e : RangeEntry} {l : Location} (within : inBounds e l = true) :
    (nextLocation .ascending e l = none ↔ l = ⟨e.bayHi, e.levHi, e.posHi⟩) ∧
    (nextLocation .descending e l = none ↔ l = ⟨e.bayLo, e.levLo, e.posLo⟩) := by
  obtain ⟨bay, level, pos⟩ := l
  simp only [inBounds_iff] at within
  simp only [nextLocation, Location.mk.injEq]
  constructor <;> split_ifs <;> simp <;> omega

/-- Settles O52: each line by the tests before it, and the two directions by the one relation they both decide. -/
theorem steppingStaysInTheRectangle : Obligations.SteppingStaysInTheRectangle := by
  intro e l m within
  obtain ⟨atLast, atFirst⟩ := nextLocation_eq_none_iff within
  refine ⟨fun pos => if_pos pos,
    fun pos level => (if_neg (by omega)).trans (if_pos level),
    fun pos level bay => (if_neg (by omega)).trans ((if_neg (by omega)).trans (if_pos bay)),
    fun pos => if_pos pos,
    fun pos level => (if_neg (by omega)).trans (if_pos level),
    fun pos level bay => (if_neg (by omega)).trans ((if_neg (by omega)).trans (if_pos bay)),
    fun _ => inBounds_nextLocation within, fun above => ?_, fun below => ?_, atLast, atFirst⟩
  · obtain ⟨inside, follows⟩ := (nextLocation_ascending_iff within m).mp above
    exact (nextLocation_descending_iff inside l).mpr ⟨within, follows⟩
  · obtain ⟨inside, follows⟩ := (nextLocation_descending_iff within m).mp below
    exact (nextLocation_ascending_iff inside l).mpr ⟨within, follows⟩

/-! ### Channel mapping (R40, R41) -/

/-- Positions count upward on the location's level, by the entry's order and the evenness of the level (R40). -/
def CountsUpward (e : RangeEntry) (level : Nat) : Prop :=
  e.order = .normal ∨ (e.order = .serpentine ∧ (level - e.levLo) % 2 = 0) ∨
    (e.order = .serpentineReversed ∧ ¬ (level - e.levLo) % 2 = 0)

theorem posOffset_of_upward {e : RangeEntry} {l : Location} (h : CountsUpward e l.level) :
    posOffset e l = l.pos - e.posLo := by
  rcases h with order | ⟨order, even⟩ | ⟨order, odd⟩ <;> simp [posOffset, *]

theorem posOffset_of_downward {e : RangeEntry} {l : Location} (h : ¬ CountsUpward e l.level) :
    posOffset e l = e.posHi + 1 - e.posLo - 1 - (l.pos - e.posLo) := by
  unfold CountsUpward at h
  unfold posOffset
  cases order : e.order <;> simp_all

/-- On one level, the position offset tells the positions within bounds apart. -/
theorem pos_eq_of_posOffset_eq {e : RangeEntry} {l m : Location} (hl : inBounds e l = true)
    (hm : inBounds e m = true) (level : l.level = m.level) (same : posOffset e l = posOffset e m) :
    l.pos = m.pos := by
  rw [inBounds_iff] at hl hm
  by_cases upward : CountsUpward e l.level
  · rw [posOffset_of_upward upward, posOffset_of_upward (level ▸ upward)] at same
    omega
  · rw [posOffset_of_downward upward, posOffset_of_downward (level ▸ upward)] at same
    omega

/-- A two-digit number of mixed radix has its digits once. -/
theorem mul_add_inj {n a b x y : Nat} (hx : x < n) (hy : y < n) (same : a * n + x = b * n + y) :
    a = b ∧ x = y := by
  have low : x = y := by
    have rest := congrArg (· % n) same
    simpa [Nat.mul_add_mod', Nat.mod_eq_of_lt hx, Nat.mod_eq_of_lt hy] using rest
  subst low
  exact ⟨Nat.eq_of_mul_eq_mul_right (Nat.zero_lt_of_lt hx) (Nat.add_right_cancel same), rfl⟩

/-- Different locations within bounds have different indices (R41). -/
theorem spanIndex_inj {e : RangeEntry} {l m : Location} (hl : inBounds e l = true) (hm : inBounds e m = true)
    (same : spanIndex e l = spanIndex e m) : l = m := by
  obtain ⟨bayL, levelL, posL, posL'⟩ := (inBounds_iff e l).mp hl
  obtain ⟨bayM, levelM, posM, posM'⟩ := (inBounds_iff e m).mp hm
  have index (k : Location) : spanIndex e k =
      ((k.bay - e.bayLo) * (e.levHi + 1 - e.levLo) + (k.level - e.levLo)) * (e.posHi + 1 - e.posLo) +
        posOffset e k := by
    rw [Nat.add_mul]
    rfl
  rw [index, index] at same
  obtain ⟨high, offset⟩ := mul_add_inj (posOffset_lt posL posL') (posOffset_lt posM posM') same
  obtain ⟨bay, level⟩ := mul_add_inj (by omega) (by omega) high
  have bay : l.bay = m.bay := by omega
  have level : l.level = m.level := by omega
  have pos := pos_eq_of_posOffset_eq hl hm level offset
  show (⟨l.bay, l.level, l.pos⟩ : Location) = ⟨m.bay, m.level, m.pos⟩
  rw [bay, level, pos]

/-- The channel of a location within the bounds of an entry that a load takes (R40, R41). -/
theorem mapChannel_val {e : RangeEntry} {l : Location} (fits : geometryFits e = true) (within : inBounds e l = true) :
    (mapChannel e l).val = e.base + spanIndex e l := by
  obtain ⟨-, -, -, top⟩ := (geometryFits_iff e).mp fits
  have index := spanIndex_lt_spanSize within
  exact Nat.mod_eq_of_lt (by omega)

/-- Settles O51: the offset by the order, the index below the span's size, and its digits told apart. -/
theorem channelMappingIsOneToOne : Obligations.ChannelMappingIsOneToOne := by
  intro e l m block fits hl hm levels places even forward
  obtain ⟨-, -, posLo, posHi⟩ := (inBounds_iff e l).mp hl
  have index := spanIndex_lt_spanSize hl
  have value := mapChannel_val fits hl
  refine ⟨posOffset_of_upward, posOffset_of_downward, posOffset_lt posLo posHi, rfl, index, value, ?_,
    fun same => spanIndex_inj hl hm ?_⟩
  · rw [inSpan_iff, value]
    exact ⟨block, Nat.le_add_right _ _, Nat.add_lt_add_left index _⟩
  · have values := congrArg Fin.val same
    rw [value, mapChannel_val fits hm] at values
    exact Nat.add_left_cancel values

end Sys2Proof.Machine
end

section
/-! PROOFS. Settle windows (O36), what an advance does to the counts (O35), and the expiries (O37). -/

namespace Sys2Proof.Machine

/-! ### Settle windows (R49, R50) -/

/-- A window that has passed is not open. -/
theorem settleOpen_of_passed {d : DisplayRec} (passed : d.settlePassed = true) (now : Time) :
    d.settleOpen now = false := by simp [DisplayRec.settleOpen, passed]

/-- A window is open exactly when some of it remains. -/
theorem settleOpen_eq (d : DisplayRec) (now : Time) : d.settleOpen now = decide (0 < d.settleRemaining now) := by
  unfold DisplayRec.settleRemaining
  cases runs : d.settleOpen now with
  | false => rfl
  | true =>
    have ahead : before now d.settleEnd = true := (Bool.and_eq_true_iff.mp runs).2
    exact (decide_eq_true ((before_iff now d.settleEnd).mp ahead).1).symm

/-- What remains of a window with the given end. -/
theorem settleRemaining_of_end {d : DisplayRec} {now : Time} (runs : d.settlePassed = false)
    (ahead : before now d.settleEnd = true) : d.settleRemaining now = (d.settleEnd - now).toNat := by
  simp [DisplayRec.settleRemaining, DisplayRec.settleOpen, runs, ahead]

/-- A window started when none is open remains for exactly its units (R50). -/
theorem settleRemaining_startSettle_of_passed {now : Time} {units : Nat} {d : DisplayRec} (top : units ≤ 255)
    (passed : d.settlePassed = true) : (startSettle now units d).settleRemaining now = units := by
  have ahead' := before_ahead now (n := units) (by omega)
  rw [startSettle_passed passed]
  rcases Nat.eq_zero_or_pos units with rfl | pos
  · exact if_neg (by simp [DisplayRec.settleOpen, ahead'])
  · have inTime : before now (ahead now units) = true := ahead'.trans (decide_eq_true pos)
    rw [inTime]
    exact (settleRemaining_of_end (d := { d with settleEnd := ahead now units, settlePassed := false }) rfl
      inTime).trans (toNat_ahead_sub now top)

/-- A window started in an open one ends later, or leaves it (R50). -/
theorem settleRemaining_startSettle_of_open {now : Time} {units : Nat} {d : DisplayRec} (top : units ≤ 255)
    (runs : d.settlePassed = false) (ahead' : before now d.settleEnd = true)
    (near : (d.settleEnd - now).toNat ≤ 255) :
    (startSettle now units d).settleRemaining now = max (d.settleEnd - now).toNat units := by
  have distance := toNat_ahead_sub now top
  have later : before d.settleEnd (ahead now units) = decide ((d.settleEnd - now).toNat < units) := by
    rw [Bool.eq_iff_iff, before_iff, decide_eq_true_iff]
    rw [before_iff] at ahead'
    bv_omega
  have notPassed : ¬ d.settlePassed = true := by simp [runs]
  by_cases longer : (d.settleEnd - now).toNat < units
  · have moved : startSettle now units d = { d with settleEnd := ahead now units } :=
      (if_neg notPassed).trans (if_pos (later.trans (decide_eq_true longer)))
    have inTime : before now (ahead now units) = true := by
      rw [before_ahead now (by omega)]
      exact decide_eq_true (by omega)
    have remains := settleRemaining_of_end (d := { d with settleEnd := ahead now units }) runs inTime
    rw [moved, remains, distance, Nat.max_eq_right longer.le]
  · have stays : startSettle now units d = d :=
      (if_neg notPassed).trans (if_neg (ne_true_of_eq_false (later.trans (decide_eq_false longer))))
    rw [stays, settleRemaining_of_end runs ahead', Nat.max_eq_left (Nat.le_of_not_lt longer)]

/-- Starting a settle window changes the settle end and its passed mark alone. -/
theorem startSettle_form (now : Time) (units : Nat) (d : DisplayRec) :
    startSettle now units d = { d with
      settleEnd := (startSettle now units d).settleEnd
      settlePassed := (startSettle now units d).settlePassed } := by
  unfold startSettle
  split
  · rfl
  · dsimp only
    split <;> rfl

/-- Settles O36: by whether the window before had passed. -/
theorem settleWindowsAreNeverShortened : Obligations.SettleWindowsAreNeverShortened := by
  intro now units d top near ahead'
  have longest : (startSettle now units d).settleRemaining now = max (d.settleRemaining now) units := by
    cases passed : d.settlePassed with
    | true =>
      have none' : d.settleRemaining now = 0 := if_neg (by simp [settleOpen_of_passed passed])
      rw [settleRemaining_startSettle_of_passed top passed, none', Nat.zero_max]
    | false =>
      have remains := settleRemaining_of_end passed (ahead' passed)
      rw [remains] at near
      rw [settleRemaining_startSettle_of_open top passed (ahead' passed) near, remains]
  exact ⟨longest, longest ▸ settleOpen_eq _ now, startSettle_form now units d⟩

/-! ### TIME_ADVANCE (R48, R50 to R52) -/

/-- An end time that lies ahead is not reached. -/
theorem reached_eq_false {t : Time} {o : Option Time} (ahead' : ∀ e, o = some e → before t e = true) :
    reached t o = false := by
  cases o with
  | none => rfl
  | some e => simp [reached, ahead' e rfl]

/-- With nothing due, an advance finds no expiry to take first (log 8). -/
theorem flushExpiries_of_nothingDue {s : State} (h : NothingDue s) : flushExpiries s = s := by
  obtain ⟨lapses, blinks, probations, test, guard⟩ := h
  have noDeadline : s.pool.filter s.deadlineDue = [] := List.filter_eq_nil_iff.mpr fun x live due =>
    have ⟨showing, last, lapsing⟩ := (deadlineDue_iff s x).mp due
    lapses x live ⟨lapsing, .inl ⟨showing, last⟩⟩
  have noHold : s.pool.filter (fun x => !s.holdDue x) = s.pool := List.filter_eq_self.mpr fun x live => by
    rw [Bool.not_eq_true', ← Bool.not_eq_true, holdDue_iff]
    exact fun ⟨done, last, lapsing⟩ => lapses x live ⟨lapsing, .inr ⟨done, last⟩⟩
  have noBlink : channels.filter (fun c => reached s.time s.disp[c].waitBlinkEnd) = [] :=
    List.filter_eq_nil_iff.mpr fun c _ => by simpa using reached_eq_false (blinks c)
  have noProbation : channels.filter (fun c => reached s.time s.bus[c].probation) = [] :=
    List.filter_eq_nil_iff.mpr fun c _ => by simpa using reached_eq_false (probations c)
  have noTest : s.testDue = false := reached_eq_false fun e same => by
    obtain ⟨x, on, rfl⟩ := Option.map_eq_some_iff.mp same
    exact test x on
  simp only [flushExpiries, noDeadline, List.foldl_nil, noHold, noBlink, noProbation, noTest,
    reached_eq_false guard, Bool.false_eq_true, if_false]

/-- A count after an advance, in the words of the statements. -/
theorem lowered_eq_loweredTo : lowered = loweredTo := by
  funext n
  unfold lowered loweredTo
  split_ifs <;> omega

/-- Settles O35: nothing is taken first, and then time moves on by one unit. -/
theorem timeAdvanceLowersTheCounts : Obligations.TimeAdvanceLowersTheCounts := by
  refine fun s => ⟨⟨_, rfl, congrArg (· + 1) (flushExpiries_changes (s₀ := s) s).pending_time.2⟩, fun nothing => ?_⟩
  have run : exec .timeAdvance s = .next (tick s) :=
    congrArg (Host.Outcome.next ∘ tick) (flushExpiries_of_nothingDue nothing)
  refine ⟨tick s, run, rfl, List.map_congr_left fun x _ => ?_, fun tag => ?_, fun c => ?_⟩
  · simp only [tickTask, countsDown_iff, and_assoc, lowered_eq_loweredTo]
  · refine (mem_lapsingNext s tag).trans (exists_congr fun x => and_congr_right fun _ => ?_)
    rw [countsDown_iff, and_comm]
    rfl
  · have ticked : (tick s).disp[c] = tickDisp (s.time + 1) s.disp[c] := getElem_mapTab ..
    rw [ticked]
    exact ⟨rfl, by simp [tickDisp]⟩

/-! ### The expiry commands (R74, R77, R92, R149, R167) -/

/-- Over standing lists, the record a channel's first entry names is its SHOWING task (R82). -/
theorem ListsStand.showingOf_of_first {s : State} (lists : ListsStand s) {c : Channel} {x : Task}
    (live : x ∈ s.pool) (first : s.slots[c].head? = some x.tag) : showingOf s c = some x := by
  rw [showingOf, first]
  exact findTag_of_mem lists.tags live

/-- Over standing lists, a SHOWING task is the one its channel shows (R60, R82). -/
theorem ListsStand.showingOf_of_showing {s : State} (lists : ListsStand s) {x : Task} (live : x ∈ s.pool)
    (showing : x.state = .showing) : showingOf s x.channel = some x :=
  lists.showingOf_of_first live ((lists.first x live (by simp [showing])).mp showing)

/-- A deadline that is due is one event: the record, the mark, the beacon and one EXPIRED offered (R51, R74). -/
theorem execDeadlineExpiry_due {s : State} (lists : ListsStand s) {x : Task} (live : x ∈ s.pool)
    (due : s.deadlineDue x = true) :
    execDeadlineExpiry x.channel s = .next (offer (.expired x.tag x.loc x.channel x.lane) (expireRecord x s)) := by
  have shown := lists.showingOf_of_showing live ((deadlineDue_iff s x).mp due).1
  simp only [execDeadlineExpiry, shown, due, if_true, expireDeadline_eq]

/-- A channel without a deadline due has no such event (log 7). -/
theorem execDeadlineExpiry_notDue {s : State} (lists : ListsStand s) {c : Channel}
    (none' : ∀ x ∈ s.pool, x.channel = c → ¬ s.deadlineDue x = true) :
    execDeadlineExpiry c s = .fault .notDue := by
  unfold execDeadlineExpiry
  split
  · rename_i x shown
    obtain ⟨live, first⟩ := showingOf_some shown
    exact if_neg (none' x live (lists.showing_of_first live first).1)
  · rfl

/-- A done hold that is due frees its record; any other is no event (R77, log 7). -/
theorem execDoneHoldExpiry_due {s : State} (lists : ListsStand s) {x : Task} (live : x ∈ s.pool)
    (due : s.holdDue x = true) :
    execDoneHoldExpiry x.tag s = .next { s with pool := s.pool.filter (fun y => y.tag ≠ x.tag) } := by
  simp only [execDoneHoldExpiry, findTag_of_mem lists.tags live, due, if_true, ← freeDone_pool]
  rfl

theorem execDoneHoldExpiry_notDue {s : State} {tag : Tag}
    (none' : ∀ x ∈ s.pool, x.tag = tag → ¬ s.holdDue x = true) :
    execDoneHoldExpiry tag s = .fault .notDue := by
  unfold execDoneHoldExpiry
  split
  · rename_i x found
    obtain ⟨live, named⟩ := findTag_some found
    exact if_neg (none' x live named)
  · rfl

/-- Settles O37: which record, channel or test is due, and what its expiry changes. -/
theorem timersExpire : Obligations.TimersExpire := by
  refine fun s lists => ⟨fun x live lapsing showing last => ?_, fun c none' => ?_, fun x live lapsing done last => ?_,
    fun tag none' => ?_, fun c => ⟨fun none' => ?_, fun e runs => ⟨fun ahead' => ?_, fun due => ?_⟩⟩,
    fun c => ⟨fun none' => ?_, fun e runs => ⟨fun ahead' => ?_, fun due => ?_⟩⟩, fun none' => ?_,
    fun x on => ⟨fun ahead' => ?_, fun due => ?_⟩⟩
  · have due : s.deadlineDue x = true := (deadlineDue_iff s x).mpr ⟨showing, last, lapsing⟩
    obtain ⟨q, w, e, offers⟩ := offer_form (.expired x.tag x.loc x.channel x.lane) (expireRecord x s)
    have run : exec (.deadlineExpiry x.channel) s = .next _ := execDeadlineExpiry_due lists live due
    rw [run, e]
    exact ⟨_, rfl, rfl, rfl, onlyAt_updTab x.channel markDirty s.disp, beaconTrue_evalBeacon _, offers⟩
  · refine execDeadlineExpiry_notDue lists fun x live here due => ?_
    obtain ⟨showing, last, lapsing⟩ := (deadlineDue_iff s x).mp due
    exact none' x live here ⟨lapsing, showing, last⟩
  · exact execDoneHoldExpiry_due lists live ((holdDue_iff s x).mpr ⟨done, last, lapsing⟩)
  · refine execDoneHoldExpiry_notDue fun x live named due => ?_
    obtain ⟨done, last, lapsing⟩ := (holdDue_iff s x).mp due
    exact none' x live named ⟨named ▸ lapsing, done, last⟩
  · exact if_neg (by rw [none']; exact nofun)
  · exact if_neg (by rw [runs, reached_some_iff]; simp [ahead'])
  · have run : execWaitBlinkExpiry c s = .next (expireBlink c s) :=
      if_pos (by rw [runs, reached_some_iff]; exact due)
    exact ⟨_, run, rfl, onlyAt_updTab c _ s.disp⟩
  · exact if_neg (by rw [none']; exact nofun)
  · exact if_neg (by rw [runs, reached_some_iff]; simp [ahead'])
  · have run : execProbationExpiry c s = .next (expireProbation c s) :=
      if_pos (by rw [runs, reached_some_iff]; exact due)
    exact ⟨_, run, rfl, onlyAt_updTab c _ s.bus⟩
  · exact if_neg (by simp [State.testDue, none', reached])
  · exact if_neg (by simp [State.testDue, on, reached, ahead'])
  · have run : execLampTestExpiry s = .next (endTestByExpiry s) :=
      if_pos (by simp [State.testDue, on, reached, due])
    refine ⟨_, run, rfl, fun c => ?_⟩
    have inSet : s.inTest c = true ↔ c ∈ x.set := by simp [State.inTest, on]
    refine (getElem_mapTab ..).trans ?_
    exact if_congr inSet rfl rfl

end Sys2Proof.Machine
end

section
/-! PROOFS. SHOW_START (O40): where a SHOW goes, and the content it carries. -/

namespace Sys2Proof.Machine

/-! ### Where a SHOW goes (R95, R141) -/

/-- A SHOW goes to the lowest channel that is PRESENT and dirty. -/
theorem nextShow_eq_some {s : State} {c : Channel} (present : s.bus[c].presence = .present)
    (dirty : s.disp[c].dirty = true)
    (lowest : ∀ d : Channel, s.bus[d].presence = .present ∧ s.disp[d].dirty = true → c ≤ d) :
    nextShow s = some c := by
  have inside : c.val < channels.length := length_channels.symm ▸ c.isLt
  have place (j : Nat) (h : j < channels.length) : channels[j] = ⟨j, length_channels ▸ h⟩ := by simp [channels]
  refine List.find?_eq_some_iff_getElem.mpr
    ⟨by rw [(isPresent_iff s c).mpr present, dirty]; rfl, c.val, inside, place .., fun j lower => ?_⟩
  rw [place, Bool.not_eq_true', ← Bool.not_eq_true, Bool.and_eq_true, isPresent_iff]
  exact fun due => absurd (lowest _ due) (Nat.not_le.mpr lower)

/-- Without a PRESENT channel that is dirty there is no SHOW to make. -/
theorem nextShow_eq_none {s : State}
    (clean : ∀ c : Channel, ¬ (s.bus[c].presence = .present ∧ s.disp[c].dirty = true)) : nextShow s = none := by
  rw [Option.eq_none_iff_forall_ne_some]
  exact fun c next => clean c (present_of_nextShow next)

theorem requestBytes_display (c : Channel) (x : Content) :
    requestBytes (.display c x) = withCheckByte (BitVec.ofNat 8 (64 + c.val) :: contentBytes x) := by
  simp [requestBytes, addressByte_eq, exchangeCode, exchangeChannel]

/-! ### The content table (R45, R89, R90) -/

/-- The lamp test's line is the first. -/
theorem deriveContent_test {s : State} {c : Channel} {z : LampTest} (on : s.test = some z) (mem : c ∈ z.set)
    (digits : Nat) :
    deriveContent s c digits = { lamp := some { colour := z.colour, cadence := .steady }, digits := .all } := by
  simp [deriveContent, on, mem, Option.filter]

/-- Outside a lamp test the content is by the hold's line or the list's. -/
theorem deriveContent_noTest {s : State} {c : Channel} (out : s.inTest c = false) (digits : Nat) :
    deriveContent s c digits =
      if s.head = true ∨ s.guard = true then { lamp := none, digits := .bars } else listContent s c digits := by
  have noTest : s.test.filter (·.set.contains c) = none := by
    rw [Option.filter_eq_none_iff]
    exact fun z on => ne_true_of_eq_false ((Option.any_eq_false ..).mp out z on)
  rw [deriveContent, noTest]
  exact if_congr (Bool.or_eq_true ..).to_iff rfl rfl

/-- The content of an empty list is dark. -/
theorem listContent_empty {s : State} {c : Channel} (empty : s.slots[c] = []) (digits : Nat) :
    listContent s c digits = { lamp := none, digits := .blank } := by
  have noTask : showingOf s c = none := by rw [showingOf, empty]; rfl
  rw [listContent, noTask]

/-- The WAIT line and the TASK line in one: the lamp's cadence is FAST for a wait blink or an expired task. -/
theorem listContent_task {s : State} {c : Channel} {y : Task} (shown : showingOf s c = some y) (digits : Nat) :
    listContent s c digits =
      { lamp := some { colour := s.lanes[y.lane].colour,
                       cadence := if s.disp[c].blinkRuns s.time = true ∨ y.expired = true then .fast
                                  else s.lanes[y.lane].cadence }
        digits := taskDigits digits y } := by
  rw [listContent, shown]
  dsimp only
  by_cases blinks : s.disp[c].blinkRuns s.time = true
  · rw [if_pos blinks, if_pos (.inl blinks)]
    rfl
  · rw [if_neg blinks]
    simp only [taskContent, or_iff_right blinks]

/-- The content derived at a SHOW's start is that of the first line of R89 that holds. -/
theorem contentIs_deriveContent {s : State} (lists : ListsStand s) (c : Channel) (digits : Nat) :
    ContentIs s c digits (deriveContent s c digits) := by
  refine ⟨fun z on mem => deriveContent_test on mem digits, fun out held => ?_, fun out head guard empty => ?_,
    fun out head guard y live first => ?_⟩
  · rw [deriveContent_noTest out, if_pos held]
  · rw [deriveContent_noTest out, if_neg (by simp [head, guard]), listContent_empty empty]
  · rw [deriveContent_noTest out, if_neg (by simp [head, guard]),
      listContent_task (lists.showingOf_of_first live first)]
    exact ⟨rfl, rfl⟩

/-- Settles O40: the batch, the channel, its content and its mark. -/
theorem showCarriesTheDerivedContent : Obligations.ShowCarriesTheDerivedContent := by
  intro s lists idle
  have busFree : ¬ s.exchange.isSome = true := by simp [idle]
  refine ⟨fun spent => (if_neg busFree).trans (if_pos spent), fun left => ?_⟩
  have notSpent : ¬ s.batchLeft = 0 := Nat.pos_iff_ne_zero.mp left
  refine ⟨fun c k due lowest caps => ?_, fun clean => ?_⟩
  · have run : execShowStart s = .next { startExchange (.display c (deriveContent s c k.digits))
        (onDisp c (fun d => { d with dirty := false }) s) with batchLeft := s.batchLeft - 1 } := by
      simp only [execShowStart, if_neg busFree, if_neg notSpent, nextShow_eq_some due.1 due.2 lowest, caps]
    refine ⟨_, _, run, ?_, onlyAt_updTab c _ s.disp, contentIs_deriveContent lists c k.digits⟩
    simp only [startExchange, requestBytes_display]
    rfl
  · show execShowStart s = _
    simp only [execShowStart, if_neg busFree, if_neg notSpent, nextShow_eq_none clean]

end Sys2Proof.Machine
end

section
/-! PROOFS. Key presses: an adjust press (O47) and a confirm press set aside (O46). -/

namespace Sys2Proof.Machine

/-! ### The reading and its presses (R117, R118, R120) -/

/-- The bus after an answered POLL: no misses, and the channel's keys read (R117, R118, R144). -/
def busHeard (c : Channel) (a : List Byte) (bus : Tab 64 BusRec) : Tab 64 BusRec :=
  updTab (updTab bus c fun b => { b with misses := 0 }) c (keysRead (levelIn a 0) (levelIn a 1))

/-- The state after an answered POLL, before the presses of its reading are judged. -/
def keysHeard (c : Channel) (a : List Byte) (s : State) : State :=
  { s with exchange := none, request := [], batchLeft := 4, bus := busHeard c a s.bus }

theorem keysHeard_eq (c : Channel) (a : List Byte) (s : State) :
    onBus c (keysRead (levelIn a 0) (levelIn a 1)) (answered c (endVisit s)) = keysHeard c a s := by
  simp only [onBus, answered, endVisit, endExchange, keysHeard, busHeard]

/-- An adjust press of the reading is judged, where it makes one (R120). -/
def adjustJudged (c : Channel) (a : List Byte) (s : State) : State :=
  beforeConfirm c (levelIn a 0) (levelIn a 1) (answered c (endVisit s))

theorem adjustJudged_of_press {c : Channel} {a : List Byte} {s : State} (pressed : AdjustPressed c a s) :
    adjustJudged c a s = adjustPress c (keysHeard c a s) :=
  (beforeConfirm_eq ..).trans <| (if_pos
    ((makesPress_adjust_iff c a _).mpr ((adjustPressed_answered c a s).mpr pressed))).trans <| by
      rw [keysHeard_eq]

theorem adjustJudged_of_noPress {c : Channel} {a : List Byte} {s : State} (quiet : ¬ AdjustPressed c a s) :
    adjustJudged c a s = keysHeard c a s :=
  (beforeConfirm_eq ..).trans <| (if_neg fun press =>
    quiet ((adjustPressed_answered c a s).mp ((makesPress_adjust_iff c a _).mp press))).trans (keysHeard_eq c a s)

theorem exec_pollAnswered_of_noConfirm {c : Channel} {a : List Byte} {s : State} (polled : Polled c a s)
    (quiet : ¬ ConfirmPressed c a s) : exec (.pollAnswered a) s = .next (adjustJudged c a s) := by
  refine (execPollAnswered_of_polled polled).trans (congrArg _ ((reading_eq ..).trans (if_neg fun press => quiet ?_)))
  exact (confirmPressed_answered c a s).mp ((makesPress_confirm_iff c a _).mp press)

theorem exec_pollAnswered_of_confirm {c : Channel} {a : List Byte} {s : State} (polled : Polled c a s)
    (pressed : ConfirmPressed c a s) :
    exec (.pollAnswered a) s = .next (confirmPress c (adjustJudged c a s)) := by
  refine (execPollAnswered_of_polled polled).trans (congrArg _ ((reading_eq ..).trans (if_pos ?_)))
  exact (makesPress_confirm_iff c a _).mpr ((confirmPressed_answered c a s).mpr pressed)

/-! ### An adjust press judged (R46, R128) -/

/-- Nothing freezes the segment exactly while it is not frozen. -/
theorem frozen_eq_false_iff (s : State) : s.frozen = false ↔ Free s := by
  simp [Free, State.frozen, State.held, and_assoc]

theorem showingOf_of_empty {s : State} {c : Channel} (empty : s.slots[c] = []) : showingOf s c = none := by
  rw [showingOf, empty]
  rfl

/-- An adjust press in a frozen aisle, on an empty list or inside a settle window does nothing. -/
theorem adjustPress_ignored {c : Channel} {s : State}
    (h : ¬ Free s ∨ s.slots[c] = [] ∨ s.disp[c].settleOpen s.time = true) : adjustPress c s = s := by
  unfold adjustPress
  split
  · rfl
  · rename_i free
    split
    · rfl
    · rename_i x shown
      rcases h with frozen | empty | open'
      · exact absurd ((frozen_eq_false_iff s).mp (Bool.eq_false_of_not_eq_true free)) frozen
      · rw [showingOf_of_empty empty] at shown
        cases shown
      · exact if_pos open'

/-- An adjust press for an indicate-only task does nothing. -/
theorem adjustPress_indicateOnly {c : Channel} {s : State} {x : Task} (shown : showingOf s c = some x)
    (zero : x.q = 0) : adjustPress c s = s := by
  unfold adjustPress
  rw [shown]
  dsimp only
  rw [if_pos zero, ite_self, ite_self]

/-- Any other adjust press lowers A of the SHOWING task and marks its channel (R46). -/
theorem adjustPress_taken {c : Channel} {s : State} {x : Task} (free : Free s) (shown : showingOf s c = some x)
    (closed : s.disp[c].settleOpen s.time = false) (quantity : x.q ≠ 0) :
    adjustPress c s = onDisp c markDirty { s with pool := editTask x.tag adjustTask s.pool } := by
  unfold adjustPress
  rw [shown, (frozen_eq_false_iff s).mpr free]
  dsimp only
  rw [if_neg Bool.false_ne_true, closed, if_neg Bool.false_ne_true, if_neg quantity]

/-- The SHOWING task of a channel, as a press of the reading finds it. -/
theorem showingOf_keysHeard {s : State} (lists : ListsStand s) {c : Channel} {x : Task} (live : x ∈ s.pool)
    (first : s.slots[c].head? = some x.tag) (a : List Byte) : showingOf (keysHeard c a s) c = some x :=
  lists.showingOf_of_first live first

/-- Settles O47: the press is judged after the reading, which leaves all it is judged by. -/
theorem adjustPressLowersTheQuantity : Obligations.AdjustPressLowersTheQuantity := by
  intro s c a lists polled pressed quiet
  have run := (exec_pollAnswered_of_noConfirm polled quiet).trans
    (congrArg Host.Outcome.next (adjustJudged_of_press pressed))
  have kept (same : adjustPress c (keysHeard c a s) = keysHeard c a s) :
      adjustPress c (keysHeard c a s) =
        { visitEnded s with bus := (adjustPress c (keysHeard c a s)).bus } := by
    rw [same]
    rfl
  refine ⟨_, run, fun ignored => kept (adjustPress_ignored ignored), fun x live first =>
    ⟨fun zero => kept (adjustPress_indicateOnly (showingOf_keysHeard lists live first a) zero),
      fun quantity free closed => ?_⟩⟩
  rw [adjustPress_taken (s := keysHeard c a s) free (showingOf_keysHeard lists live first a) closed quantity]
  exact ⟨rfl, rfl, onlyAt_updTab c markDirty s.disp⟩

/-! ### A confirm press judged (R121 to R125) -/

section

variable {c : Channel} {s : State} {x : Task}

theorem confirmPress_frozen (frozen : ¬ Free s) : confirmPress c s = s := by
  have frozen' : s.frozen = true := by simpa using mt (frozen_eq_false_iff s).mp frozen
  exact if_pos frozen'

theorem confirmPress_empty (free : Free s) (empty : s.slots[c] = []) :
    confirmPress c s = offer (.stalePress c none) s := by
  simp only [confirmPress, (frozen_eq_false_iff s).mpr free, showingOf_of_empty empty, Bool.false_eq_true, if_false]

theorem confirmPress_stale (free : Free s) (shown : showingOf s c = some x)
    (open' : s.disp[c].settleOpen s.time = true) :
    confirmPress c s = offer (.stalePress c (some
      { tag := x.tag, loc := x.loc, lane := x.lane, settle := s.disp[c].settleRemaining s.time })) s := by
  simp only [confirmPress, (frozen_eq_false_iff s).mpr free, shown, open', Bool.false_eq_true, if_false, if_true]

theorem confirmPress_full (free : Free s) (shown : showingOf s c = some x)
    (closed : s.disp[c].settleOpen s.time = false) (full : 31 ≤ s.queue.length) :
    confirmPress c s = startBlink c s := by
  have noRoom : s.essentialRoom = false := by
    rw [← Bool.not_eq_true, essentialRoom_iff]
    omega
  simp only [confirmPress, (frozen_eq_false_iff s).mpr free, shown, closed, noRoom, Bool.false_eq_true, if_false,
    Bool.not_false, if_true]

theorem confirmPress_taken (free : Free s) (shown : showingOf s c = some x)
    (closed : s.disp[c].settleOpen s.time = false) (room : s.queue.length + 2 ≤ 32) :
    confirmPress c s = takeConfirm c x s := by
  simp only [confirmPress, (frozen_eq_false_iff s).mpr free, shown, closed, (essentialRoom_iff s).mpr room,
    Bool.false_eq_true, if_false, Bool.not_true]

end

/-! ### An adjust press beside a confirm press (R120) -/

/-- An adjust press that is set aside leaves the reading alone for the confirm press. -/
theorem adjustJudged_ignored {c : Channel} {s : State}
    (h : ¬ Free s ∨ s.slots[c] = [] ∨ s.disp[c].settleOpen s.time = true) (a : List Byte) :
    adjustJudged c a s = keysHeard c a s := by
  by_cases pressed : AdjustPressed c a s
  · exact (adjustJudged_of_press pressed).trans (adjustPress_ignored h)
  · exact adjustJudged_of_noPress pressed

/-- What a confirm press finds that is neither ignored nor stale: the reading, and the pool and display records
that an adjust press of the same reading has left. -/
def pressFound (c : Channel) (a : List Byte) (pool : List Task) (disp : Tab 64 DisplayRec) (s : State) : State :=
  { s with
    exchange := none, request := [], batchLeft := 4, bus := busHeard c a s.bus, pool := pool, disp := disp }

/-- The press of the reading lowers A: there is one, and the task is not indicate-only (R46, R128). -/
def Lowers (c : Channel) (a : List Byte) (x : Task) (s : State) : Prop := AdjustPressed c a s ∧ x.q ≠ 0

theorem adjustJudged_lowers {c : Channel} {a : List Byte} {s : State} {x : Task} (lists : ListsStand s)
    (live : x ∈ s.pool) (first : s.slots[c].head? = some x.tag) (free : Free s)
    (closed : s.disp[c].settleOpen s.time = false) (lowers : Lowers c a x s) :
    adjustJudged c a s = pressFound c a (editTask x.tag adjustTask s.pool) (updTab s.disp c markDirty) s := by
  obtain ⟨pressed, quantity⟩ := lowers
  rw [adjustJudged_of_press pressed,
    adjustPress_taken (s := keysHeard c a s) free (showingOf_keysHeard lists live first a) closed quantity]
  rfl

theorem adjustJudged_leaves {c : Channel} {a : List Byte} {s : State} {x : Task} (lists : ListsStand s)
    (live : x ∈ s.pool) (first : s.slots[c].head? = some x.tag) (leaves : ¬ Lowers c a x s) :
    adjustJudged c a s = pressFound c a s.pool s.disp s := by
  by_cases pressed : AdjustPressed c a s
  · have zero : x.q = 0 := not_not.mp fun quantity => leaves ⟨pressed, quantity⟩
    exact (adjustJudged_of_press pressed).trans
      (adjustPress_indicateOnly (showingOf_keysHeard lists live first a) zero)
  · exact adjustJudged_of_noPress pressed

/-- The SHOWING task that a confirm press finds is the one of the list, lowered or not. -/
theorem showingOf_pressFound {s : State} (lists : ListsStand s) {c : Channel} {x : Task} (live : x ∈ s.pool)
    (first : s.slots[c].head? = some x.tag) (a : List Byte) (disp : Tab 64 DisplayRec) :
    showingOf (pressFound c a (editTask x.tag adjustTask s.pool) disp s) c = some (adjustTask x) := by
  have nodup : ((editTask x.tag adjustTask s.pool).map (·.tag)).Nodup := by
    rw [editTask_tags (f := adjustTask) fun _ => rfl]
    exact lists.tags
  have mem : adjustTask x ∈ editTask x.tag adjustTask s.pool := List.mem_map.mpr ⟨x, live, if_pos rfl⟩
  show s.slots[c].head?.bind (findTag _) = _
  rw [first]
  exact findTag_of_mem nodup mem

/-- A display record in which the wait blink starts (R92, R125). -/
def blinkStarted (t : Time) (d : DisplayRec) : DisplayRec :=
  { markDirty d with waitBlinkEnd := some (ahead t Config.waitBlinkUnits) }

theorem startBlink_eq (c : Channel) (s : State) :
    startBlink c s = { s with disp := updTab s.disp c (blinkStarted s.time) } := rfl

/-- The display records a confirm press finds: the list's, or marked by an adjust press of the same reading. -/
def MarkedAt (c : Channel) (disp disp' : Tab 64 DisplayRec) : Prop :=
  disp' = disp ∨ disp' = updTab disp c markDirty

/-- A mark more or less makes no difference to a change that marks the channel. -/
theorem MarkedAt.onlyAt {c : Channel} {disp disp' : Tab 64 DisplayRec} (h : MarkedAt c disp disp')
    {f : DisplayRec → DisplayRec} (marks : ∀ d, f (markDirty d) = f d) :
    OnlyAt c (f disp[c]) disp (updTab disp' c f) := by
  rcases h with rfl | rfl
  · exact onlyAt_updTab c f disp'
  · exact marks disp[c] ▸ (onlyAt_updTab c markDirty disp).trans (onlyAt_updTab c f _)

/-- Settles O46: case by case of R121, over what an adjust press of the same reading leaves. -/
theorem confirmPressSetAside : Obligations.ConfirmPressSetAside := by
  intro s c a lists polled pressed
  refine ⟨_, exec_pollAnswered_of_confirm polled pressed, fun frozen => ?_, fun free empty => ?_,
    fun x live free first open' => ?_, fun x live free first closed full => ?_⟩
  · rw [adjustJudged_ignored (.inl frozen), confirmPress_frozen (s := keysHeard c a s) frozen]
    rfl
  · rw [adjustJudged_ignored (.inr (.inl empty)), confirmPress_empty (s := keysHeard c a s) free empty]
    obtain ⟨q, w, e, offers⟩ := offer_form (.stalePress c none) (keysHeard c a s)
    rw [e]
    exact ⟨rfl, offers⟩
  · have shown := showingOf_keysHeard lists live first a
    rw [adjustJudged_ignored (.inr (.inr open')), confirmPress_stale (s := keysHeard c a s) free shown open']
    have remains : s.disp[c].settleRemaining s.time = (s.disp[c].settleEnd - s.time).toNat := if_pos open'
    obtain ⟨q, w, e, offers⟩ := offer_form (.stalePress c (some
      { tag := x.tag, loc := x.loc, lane := x.lane, settle := s.disp[c].settleRemaining s.time })) (keysHeard c a s)
    rw [show (keysHeard c a s).disp[c].settleRemaining (keysHeard c a s).time =
      s.disp[c].settleRemaining s.time from rfl, e, ← remains]
    exact ⟨rfl, offers⟩
  · by_cases lowers : Lowers c a x s
    · have shown := showingOf_pressFound lists live first a (updTab s.disp c markDirty)
      have closed' : (updTab s.disp c markDirty)[c].settleOpen s.time = false :=
        (congrArg (DisplayRec.settleOpen · s.time) (getElem_updTab_self s.disp c markDirty)).trans closed
      rw [adjustJudged_lowers lists live first free closed lowers,
        confirmPress_full (s := pressFound c a _ _ s) free shown closed' full]
      exact ⟨rfl, fun _ => rfl, (absurd lowers ·), MarkedAt.onlyAt (.inr rfl) (f := blinkStarted s.time) fun _ => rfl⟩
    · have shown : showingOf (pressFound c a s.pool s.disp s) c = some x := lists.showingOf_of_first live first
      rw [adjustJudged_leaves lists live first lowers,
        confirmPress_full (s := pressFound c a _ _ s) free shown closed full]
      exact ⟨rfl, (absurd · lowers), fun _ => rfl, onlyAt_updTab c (blinkStarted s.time) s.disp⟩

end Sys2Proof.Machine
end

section
/-! PROOFS. A confirm press that is taken (O45). -/

namespace Sys2Proof.Machine

/-! ### What a taken confirm press leaves (R60, R126) -/

section

variable {s : State} {c : Channel} {y : Task}

/-- The second entry of a list is another task than the first. -/
theorem ListsStand.second_ne (lists : ListsStand s) (first : s.slots[c].head? = some y.tag) :
    s.slots[c].tail.head? ≠ some y.tag := by
  obtain ⟨rest, list⟩ := List.head?_eq_some_iff.mp first
  have once := lists.once c
  rw [list, List.nodup_cons] at once
  rw [list]
  exact fun second => once.1 (List.mem_of_head? second)

/-- The second entry of a list names a QUEUED record of its channel. -/
theorem ListsStand.queued_of_second (lists : ListsStand s) (first : s.slots[c].head? = some y.tag) {z : Task}
    (live : z ∈ s.pool) (second : s.slots[c].tail.head? = some z.tag) : z.channel = c ∧ z.state = .queued := by
  obtain ⟨w, live', named, here, open'⟩ := lists.listed c z.tag (List.mem_of_mem_tail (List.mem_of_head? second))
  obtain rfl : w = z := eq_of_tag_eq lists.tags live' live named
  subst here
  have notFirst : w.state ≠ .showing := fun showing => by
    have head := (lists.first w live open').mp showing
    rw [first] at head
    exact lists.second_ne first (second.trans (congrArg some (Option.some.inj head).symm))
  cases state : w.state with
  | queued => exact ⟨rfl, rfl⟩
  | showing => exact absurd state notFirst
  | done => exact absurd state open'

/-- The pool after a taken confirm press: the task DONE, the one that stood second SHOWING, all else the same. -/
theorem takeConfirm_pool (lists : ListsStand s) (live : y ∈ s.pool) (first : s.slots[c].head? = some y.tag) :
    (takeConfirm c y s).pool = s.pool.map fun z =>
      if z.tag = y.tag then confirmTask s.doneHoldUnits y
      else if s.slots[c].tail.head? = some z.tag then { z with state := .showing } else z := by
  have reads (e : Channel) : (updTab s.slots c (·.drop 1))[e] = if e = c then s.slots[e].drop 1 else s.slots[e] :=
    getElem_dropFirst ..
  show (editTask y.tag _ s.pool).map (promoted _) = _
  rw [editTask, List.map_map]
  refine List.map_congr_left fun z live' => ?_
  dsimp only [Function.comp_apply]
  split
  · rw [eq_of_tag_eq lists.tags live' live ‹_›]
    exact if_neg fun waits => absurd waits.1 nofun
  · rename_i other
    refine if_congr ⟨fun ⟨waits, head⟩ => ?_, fun second => ?_⟩ rfl rfl
    · rw [reads] at head
      split at head
      · rename_i here
        simp only [here] at head
        exact List.drop_one ▸ head
      · have showing := (lists.first z live' (by simp [waits])).mpr head
        exact absurd (waits.symm.trans showing) nofun
    · obtain ⟨here, waits⟩ := lists.queued_of_second first live' second
      refine ⟨waits, ?_⟩
      rw [reads, if_pos here]
      simp only [here, List.drop_one]
      exact second

/-- The display records after a taken confirm press: a head change on its channel alone (R60). -/
theorem takeConfirm_disp (lists : ListsStand s) (first : s.slots[c].head? = some y.tag) :
    (takeConfirm c y s).disp =
      updTab s.disp c (headChange s.time s.settleUnits s.slots[c].tail.isEmpty) := by
  refine tab_ext fun e => (restand_disp (editTask y.tag (confirmTask s.doneHoldUnits) s.pool) _ s e).trans ?_
  have reads := getElem_dropFirst s.slots c e
  by_cases here : e = c
  · subst here
    rw [if_pos rfl, List.drop_one] at reads
    have moved : s.slots[e].head? ≠ s.slots[e].tail.head? := fun same =>
      lists.second_ne first (same.symm.trans first)
    rw [reads, if_neg moved]
    exact (getElem_updTab_self ..).symm
  · rw [if_neg here] at reads
    rw [reads, if_pos rfl]
    exact (getElem_updTab_ne s.disp (Ne.symm here) _).symm

end

/-! ### A confirm press with an adjust press of the same reading, or without (R120) -/

/-- What a confirm press that is taken finds: the task as an adjust press of the same reading left it, and the rest
of the pool and the lists as they stand. -/
structure FindsTask (c : Channel) (x y : Task) (pool : List Task) (disp : Tab 64 DisplayRec) (s : State) : Prop where
  live : y ∈ pool
  named : y.tag = x.tag
  rest : pool = s.pool.map fun z => if z.tag = x.tag then y else z
  lists : ∀ t : State, t.pool = pool → t.slots = s.slots → ListsStand t
  marked : MarkedAt c s.disp disp

/-- Before a confirm press that is taken, the task has its A lowered by an adjust press of the same reading, if there
is one (R46, R120). -/
theorem adjustJudged_finds {c : Channel} {a : List Byte} {s : State} {x : Task} (lists : ListsStand s)
    (live : x ∈ s.pool) (first : s.slots[c].head? = some x.tag) (free : Free s)
    (closed : s.disp[c].settleOpen s.time = false) :
    ∃ y pool disp, adjustJudged c a s = pressFound c a pool disp s ∧ FindsTask c x y pool disp s ∧
      (Lowers c a x s → y = adjustTask x) ∧ (¬ Lowers c a x s → y = x) := by
  by_cases lowers : Lowers c a x s
  · have lowered : editTask x.tag adjustTask s.pool = s.pool.map fun z => if z.tag = x.tag then adjustTask x else z :=
      editTask_of_mem lists.tags live adjustTask
    have place (z : Task) : SamePlace z (if z.tag = x.tag then adjustTask z else z) := by
      split <;> exact ⟨rfl, rfl, rfl, rfl⟩
    exact ⟨adjustTask x, _, _, adjustJudged_lowers lists live first free closed lowers,
      ⟨List.mem_map.mpr ⟨x, live, if_pos rfl⟩, rfl, lowered, fun t pool slots => lists.of_map pool slots place, .inr rfl⟩,
      fun _ => rfl, (absurd lowers ·)⟩
  · have same : s.pool = s.pool.map fun z => if z.tag = x.tag then x else z := by
      refine (List.map_id' s.pool).symm.trans (List.map_congr_left fun z live' => ?_)
      split
      · exact eq_of_tag_eq lists.tags live' live ‹_›
      · rfl
    exact ⟨x, _, _, adjustJudged_leaves lists live first lowers,
      ⟨live, rfl, same, fun t pool slots => lists.of_same pool slots, .inl rfl⟩,
      (absurd · lowers), fun _ => rfl⟩

/-- The task that a confirm press finds, by the quantities the press is to report. -/
theorem found_eq {c : Channel} {a : List Byte} {s : State} {x y : Task} (fits : x.a ≤ x.q) {picked : Nat} {adj : Bool}
    (press : AdjustPressed c a s → picked = x.a - 1) (noPress : ¬ AdjustPressed c a s → picked = x.a)
    (mark : Lowers c a x s → adj = true) (noMark : ¬ Lowers c a x s → adj = x.adjusted)
    (lowered : Lowers c a x s → y = adjustTask x) (left : ¬ Lowers c a x s → y = x) :
    y = { x with a := picked, adjusted := adj } := by
  by_cases lowers : Lowers c a x s
  · rw [lowered lowers, press lowers.1, mark lowers]
    rfl
  · have same : picked = x.a := by
      by_cases pressed : AdjustPressed c a s
      · have zero : x.q = 0 := not_not.mp fun quantity => lowers ⟨pressed, quantity⟩
        have atPress := press pressed
        omega
      · exact noPress pressed
    rw [left lowers, same, noMark lowers]

/-- Settles O45: the press is taken on what an adjust press of the same reading left. -/
theorem confirmPressTaken : Obligations.ConfirmPressTaken := by
  intro s c a x lists polled pressed free live first closed room fits picked adj press noPress mark noMark
  obtain ⟨y, pool, disp, found, finds, lowered, left⟩ := adjustJudged_finds (a := a) lists live first free closed
  obtain rfl := found_eq fits press noPress mark noMark lowered left
  obtain ⟨live', -, rest, listsAfter, marked⟩ := finds
  let u := pressFound c a pool disp s
  have listsU : ListsStand u := listsAfter u rfl rfl
  have shown : showingOf u c = some { x with a := picked, adjusted := adj } :=
    listsU.showingOf_of_first live' first
  have closedU : u.disp[c].settleOpen u.time = false := by
    rcases marked with rfl | rfl
    · exact closed
    · exact (congrArg (DisplayRec.settleOpen · s.time) (getElem_updTab_self s.disp c markDirty)).trans closed
  have run := (exec_pollAnswered_of_confirm polled pressed).trans
    (congrArg Host.Outcome.next ((congrArg _ found).trans (confirmPress_taken (s := u) free shown closedU room)))
  have headChanges := takeConfirm_disp (s := u) listsU (y := { x with a := picked, adjusted := adj }) first
  refine ⟨_, run, rfl, ?_, ?_, fun last => ?_, fun more => ?_, beaconTrue_evalBeacon _, ?_⟩
  · show s.queue ++ [{ segment := s.segNum, stamp := s.stamp, body := _ }] = _
    rw [stamp_eq]
    rfl
  · exact List.drop_one ▸ onlyAt_updTab c (·.drop 1) s.slots
  · have dark : s.slots[c].tail.isEmpty = true := List.isEmpty_iff.mpr last
    rw [headChanges]
    show OnlyAt c _ _ (updTab disp c (headChange s.time s.settleUnits s.slots[c].tail.isEmpty))
    rw [dark]
    exact marked.onlyAt (f := headChange s.time s.settleUnits true) fun _ => rfl
  · have lit : s.slots[c].tail.isEmpty = false := List.isEmpty_eq_false_iff.mpr more
    rw [headChanges]
    show OnlyAt c _ _ (updTab disp c (headChange s.time s.settleUnits s.slots[c].tail.isEmpty))
    rw [lit]
    exact marked.onlyAt (f := headChange s.time s.settleUnits false) fun _ => rfl
  · refine (takeConfirm_pool (s := u) listsU live' first).trans ?_
    show pool.map _ = _
    rw [rest, List.map_map]
    refine List.map_congr_left fun z _ => ?_
    by_cases same : z.tag = x.tag
    · simp only [Function.comp_apply, if_pos same, if_true]
      rfl
    · simp only [Function.comp_apply, if_neg same]
      rfl

end Sys2Proof.Machine
end

section
/-! PROOFS. A RUN that passes its whole-run checks walks, posts and reports (O21). -/

namespace Sys2Proof.Machine

/-! ### How far a walk has to go (R42 to R44) -/

/-- The place of a location in an ascending walk through the whole rectangle: its index in NORMAL order. -/
def walkPlace (e : RangeEntry) (l : Location) : Nat := spanIndex { e with order := .normal } l

/-- The locations from l to the end of the rectangle in a direction, l among them. -/
def locationsLeft (d : Direction) (e : RangeEntry) (l : Location) : Nat :=
  match d with
  | .ascending => spanSize e - walkPlace e l
  | .descending => walkPlace e l + 1

theorem walkPlace_lt {e : RangeEntry} {l : Location} (within : inBounds e l = true) :
    walkPlace e l < spanSize e := spanIndex_lt_spanSize (e := { e with order := .normal }) within

/-- The location that follows stands one place on. -/
theorem walkPlace_of_follows {e : RangeEntry} {l m : Location} (hl : inBounds e l = true)
    (hm : inBounds e m = true) (follows : Follows e l m) : walkPlace e m = walkPlace e l + 1 := by
  obtain ⟨bay, level, pos⟩ := (inBounds_iff e l).mp hl
  obtain ⟨bay', level', pos'⟩ := (inBounds_iff e m).mp hm
  have place (k : Location) : walkPlace e k =
      ((k.bay - e.bayLo) * (e.levHi + 1 - e.levLo) + (k.level - e.levLo)) * (e.posHi + 1 - e.posLo) +
        (k.pos - e.posLo) := by
    rw [Nat.add_mul]
    rfl
  rw [place, place]
  rcases follows with ⟨-, rfl⟩ | ⟨atEnd, -, rfl⟩ | ⟨atEnd, atTop, -, rfl⟩
  · dsimp only
    omega
  · obtain ⟨p, places⟩ : ∃ p, e.posHi + 1 - e.posLo = p + 1 := ⟨e.posHi - e.posLo, by omega⟩
    have last : l.pos - e.posLo = p := by omega
    have up : l.level + 1 - e.levLo = l.level - e.levLo + 1 := by omega
    dsimp only
    rw [places, last, up, Nat.sub_self]
    ring
  · obtain ⟨p, places⟩ : ∃ p, e.posHi + 1 - e.posLo = p + 1 := ⟨e.posHi - e.posLo, by omega⟩
    obtain ⟨n, levels⟩ : ∃ n, e.levHi + 1 - e.levLo = n + 1 := ⟨e.levHi - e.levLo, by omega⟩
    have last : l.pos - e.posLo = p := by omega
    have top : l.level - e.levLo = n := by omega
    have up : l.bay + 1 - e.bayLo = l.bay - e.bayLo + 1 := by omega
    dsimp only
    rw [places, levels, last, top, up, Nat.sub_self, Nat.sub_self]
    ring

/-- Each step leaves fewer locations to go. -/
theorem locationsLeft_nextLocation {d : Direction} {e : RangeEntry} {l m : Location} (within : inBounds e l = true)
    (next : nextLocation d e l = some m) : locationsLeft d e m < locationsLeft d e l := by
  have inside := inBounds_nextLocation within next
  have top := walkPlace_lt inside
  cases d with
  | ascending =>
    have follows := ((nextLocation_ascending_iff within m).mp next).2
    have place := walkPlace_of_follows within inside follows
    simp only [locationsLeft]
    omega
  | descending =>
    have follows := ((nextLocation_descending_iff within m).mp next).2
    have place := walkPlace_of_follows inside within follows
    simp only [locationsLeft]
    omega

/-- From within the bounds there is a location left, and at most the span's size of them. -/
theorem locationsLeft_bounds {e : RangeEntry} {l : Location} (within : inBounds e l = true) (d : Direction) :
    0 < locationsLeft d e l ∧ locationsLeft d e l ≤ spanSize e := by
  have place := walkPlace_lt within
  cases d <;> simp only [locationsLeft] <;> omega

/-! ### What a run has posted so far (R106 to R110) -/

/-- A change of pool, slot lists, display records and beacon alone: what the posts of a run change. -/
def TasksMoved (s t : State) : Prop :=
  ∃ pool slots disp beacon, t = { s with pool := pool, slots := slots, disp := disp, beacon := beacon }

theorem TasksMoved.refl (s : State) : TasksMoved s s := ⟨_, _, _, _, rfl⟩

theorem TasksMoved.postTask {s t : State} (h : TasksMoved s t) (x : Task) : TasksMoved s (postTask x t) := by
  obtain ⟨_, _, _, _, rfl⟩ := h
  exact ⟨_, _, _, _, rfl⟩

/-- A posted task stands alone and SHOWING in a list that was empty, with a head change; in any other it joins
behind the first (R60, R84). -/
def Joined (s t : State) (x : Task) : Prop :=
  (s.slots[x.channel] = [] →
    t.slots[x.channel] = [x.tag] ∧ t.disp[x.channel] = headChanged s s.disp[x.channel]) ∧
  (s.slots[x.channel] ≠ [] → t.disp[x.channel] = s.disp[x.channel] ∧
    t.slots[x.channel].head? = s.slots[x.channel].head? ∧
    t.slots[x.channel].Perm (x.tag :: s.slots[x.channel]))

/-- The state a run has reached from s with the tasks posted so far. -/
structure RanTo (v : RunOp) (s : State) (posted : List Task) (t : State) : Prop where
  moved : TasksMoved s t
  lists : ListsStand t
  pool : t.pool = s.pool ++ posted
  tags : ∀ x ∈ posted, ∃ j < posted.length, x.tag = v.base + BitVec.ofNat 16 j
  channels : (posted.map (·.channel)).Nodup
  beacon : BeaconTrue s → BeaconTrue t ∧ t.beacon = s.beacon
  others : ∀ c : Channel, (∀ x ∈ posted, x.channel ≠ c) → t.slots[c] = s.slots[c] ∧ t.disp[c] = s.disp[c]
  joined : ∀ x ∈ posted, Joined s t x

theorem RanTo.start {s : State} (lists : ListsStand s) (v : RunOp) : RanTo v s [] s where
  moved := .refl s
  lists := lists
  pool := (List.append_nil _).symm
  tags := nofun
  channels := .nil
  beacon := fun q => ⟨q, rfl⟩
  others := fun _ _ => ⟨rfl, rfl⟩
  joined := nofun

/-- The tags of a run of at most 32 tasks are distinct (R110). -/
theorem run_tag_inj {base : Tag} {j k : Nat} (hj : j < k) (hk : k < 32) :
    base + BitVec.ofNat 16 j ≠ base + BitVec.ofNat 16 k := by
  intro same
  have numbers := congrArg BitVec.toNat (add_left_cancel same)
  rw [BitVec.toNat_ofNat, BitVec.toNat_ofNat] at numbers
  omega

/-- The candidate tag is live to a run exactly where a record from before the run carries it (R109). -/
theorem RanTo.live_iff {v : RunOp} {s t : State} {posted : List Task} (ran : RanTo v s posted t)
    (few : posted.length < 32) :
    (findTag t.pool (v.base + BitVec.ofNat 16 posted.length)).isSome = true ↔ CandidateLive v s posted.length := by
  rw [isSome_findTag_iff, ran.pool]
  refine ⟨fun ⟨x, mem, same⟩ => ?_, fun ⟨x, mem, same⟩ => ⟨x, List.mem_append_left _ mem, same⟩⟩
  rcases List.mem_append.mp mem with old | new
  · exact ⟨x, old, same⟩
  · obtain ⟨j, before, named⟩ := ran.tags x new
    exact absurd (named.symm.trans same) (run_tag_inj before few)

/-! ### One examined location (R106 to R109) -/

/-- The task that the walk of the model makes for the (k+1)-th post, before it stands in its list. -/
def runFresh (v : RunOp) (i : EntryNo) (s : State) (k : Nat) (l : Location) : Task :=
  newTask (v.base + BitVec.ofNat 16 k) l (mapChannel s.ranges[i] l) v.lane v.urgency (runQuantity v k) v.deadline
    (some { base := v.base, step := k })

/-- The table of R106 at a location whose channel the run has not posted to, over the state before the run. -/
theorem RanTo.walkStep_cases {v : RunOp} {i : EntryNo} {s t : State} {posted : List Task} {l : Location}
    (ran : RanTo v s posted t) (few : posted.length < 32)
    (untouched : ∀ x ∈ posted, x.channel ≠ mapChannel s.ranges[i] l) :
    (walkStep v i posted.length l t = .skip ∧ Skipped v i s l) ∨
    (∃ r, walkStep v i posted.length l t = .stop r ∧ r ≠ .complete ∧ Walks v i s posted.length l [] r l) ∨
    (walkStep v i posted.length l t = .post (runFresh v i s posted.length l) ∧ Posts v i s posted.length l) := by
  have live := ran.live_iff few
  have size : t.pool.length = s.pool.length + posted.length := by rw [ran.pool, List.length_append]
  have slot : t.slots[mapChannel s.ranges[i] l] = listAt i s l := (ran.others _ untouched).1
  have ranges : t.ranges = s.ranges := by obtain ⟨_, _, _, _, rfl⟩ := ran.moved; rfl
  have bus : t.bus = s.bus := by obtain ⟨_, _, _, _, rfl⟩ := ran.moved; rfl
  unfold walkStep State.presenceOf
  simp only [ranges, bus, slot, size, List.isEmpty_iff]
  have reached (here : ¬ governing s.ranges l ≠ some i)
      (kept : ¬ (s.bus[mapChannel s.ranges[i] l].presence = .absent ∨
        s.bus[mapChannel s.ranges[i] l].presence = .isolated)) : Reached i s l := ⟨not_not.mp here, not_or.mp kept⟩
  split_ifs with elsewhere lost stops skips full pool used
  · exact .inl ⟨rfl, .inl fun gone => elsewhere gone.1⟩
  · exact .inl ⟨rfl, .inl fun gone => lost.elim gone.2.1 gone.2.2⟩
  · exact .inr (.inl ⟨_, rfl, nofun, .occupied (reached elsewhere lost) stops.2 stops.1⟩)
  · exact .inl ⟨rfl, .inr ⟨skips.2, skips.1⟩⟩
  all_goals
    have considered : Considered v i s l := by
      refine ⟨reached elsewhere lost, ?_⟩
      cases mode : v.termination with
      | none => exact .inl rfl
      | stopIfOccupied => exact .inr (by simpa [mode] using stops)
      | skipIfOccupied => exact .inr (by simpa [mode] using skips)
  · exact .inr (.inl ⟨_, rfl, nofun, .listFull considered full⟩)
  · exact .inr (.inl ⟨_, rfl, nofun, .poolFull considered (Nat.lt_of_not_le full) pool⟩)
  · exact .inr (.inl ⟨_, rfl, nofun,
      .tagInUse considered (Nat.lt_of_not_le full) (Nat.lt_of_not_le pool) (live.mp used)⟩)
  · exact .inr (.inr ⟨rfl, considered, Nat.lt_of_not_le full, Nat.lt_of_not_le pool, fun used' => used (live.mpr used')⟩)

/-! ### One post (R110) -/

@[simp] theorem runTask_channel (v : RunOp) (i : EntryNo) (s : State) (k : Nat) (l : Location) :
    (runTask v i s k l).channel = mapChannel s.ranges[i] l := rfl

/-- The fresh task, SHOWING where its list was empty, is the task the statement's walk posts. -/
theorem runTask_eq (v : RunOp) (i : EntryNo) (s : State) (k : Nat) (l : Location) :
    (if listAt i s l = [] then { runFresh v i s k l with state := .showing } else runFresh v i s k l) =
      runTask v i s k l := by
  by_cases empty : listAt i s l = [] <;>
    simp [runFresh, runTask, newTask_eq, freshRecord, runQuantity, empty]

theorem postTask_disp_ne {x : Task} {c : Channel} (other : c ≠ x.channel) (s : State) :
    (postTask x s).disp[c] = s.disp[c] := by
  rw [postTask_disp, if_neg fun h => other h.1]

/-- Only the channel's list, its display record and the head change of the state before count. -/
theorem Joined.of_same {s u t : State} {x : Task} (joined : Joined u t x)
    (head : ∀ d, headChanged u d = headChanged s d) (slot : u.slots[x.channel] = s.slots[x.channel])
    (disp : u.disp[x.channel] = s.disp[x.channel]) : Joined s t x := by
  unfold Joined at joined
  rw [head, slot, disp] at joined
  exact joined

/-- The task just posted stands in its list as `Joined` says (R60, R84). -/
theorem joined_postTask (x : Task) (t : State) : Joined t (postTask x t) x := by
  unfold Joined
  rw [postTask_slots_self, postTask_disp]
  refine ⟨fun empty => ⟨by rw [empty]; rfl, if_pos ⟨rfl, empty⟩⟩, fun filled => ⟨if_neg fun h => filled h.2, ?_, ?_⟩⟩
  · exact head_insertSlot _ _ _ filled
  · exact perm_insertSlot ..

/-- A post takes the run one task further. -/
theorem RanTo.post {v : RunOp} {i : EntryNo} {s t : State} {posted : List Task} {l : Location}
    (ran : RanTo v s posted t) (few : posted.length < 32) (posts : Posts v i s posted.length l)
    (untouched : ∀ x ∈ posted, x.channel ≠ mapChannel s.ranges[i] l) :
    RanTo v s (posted ++ [runTask v i s posted.length l]) (postTask (runFresh v i s posted.length l) t) := by
  obtain ⟨-, -, -, unused⟩ := posts
  have fresh : ∀ y ∈ t.pool, y.tag ≠ (runFresh v i s posted.length l).tag :=
    findTag_none.mp (Option.not_isSome_iff_eq_none.mp fun used => unused ((ran.live_iff few).mp used))
  obtain ⟨slot, disp⟩ := ran.others _ untouched
  have pool : (postTask (runFresh v i s posted.length l) t).pool = t.pool ++ [runTask v i s posted.length l] := by
    rw [postTask_pool ran.lists rfl fresh, ← runTask_eq]
    show t.pool ++ [if t.slots[mapChannel s.ranges[i] l] = [] then _ else _] = _
    rw [slot]
    rfl
  have head (d : DisplayRec) : headChanged t d = headChanged s d := by
    obtain ⟨_, _, _, _, rfl⟩ := ran.moved
    rfl
  exact {
    moved := ran.moved.postTask _
    lists := (ran.lists.posted rfl fresh).restand t
    pool := by rw [pool, ran.pool, List.append_assoc]
    tags := by
      intro x mem
      rw [List.length_append, List.length_singleton]
      rcases List.mem_append.mp mem with old | new
      · obtain ⟨j, before, named⟩ := ran.tags x old
        exact ⟨j, by omega, named⟩
      · exact ⟨posted.length, by omega, List.mem_singleton.mp new ▸ rfl⟩
    channels := by
      rw [List.map_append, List.nodup_append']
      refine ⟨ran.channels, List.nodup_singleton _, ?_⟩
      simpa using untouched
    beacon := fun q => by
      obtain ⟨before, same⟩ := ran.beacon q
      exact ⟨beaconTrue_evalBeacon _, (postTask_beacon ran.lists rfl fresh rfl before).trans same⟩
    others := by
      intro c' apart
      have ne : c' ≠ mapChannel s.ranges[i] l := fun same =>
        apart _ (List.mem_append_right _ (List.mem_singleton_self _)) same.symm
      obtain ⟨slots', disp'⟩ := ran.others c' fun x mem => apart x (by simp [mem])
      exact ⟨(postTask_slots_ne ne t).trans slots', (postTask_disp_ne ne t).trans disp'⟩
    joined := by
      intro x mem
      rcases List.mem_append.mp mem with old | new
      · have ne := untouched x old
        obtain ⟨alone, behind⟩ := ran.joined x old
        unfold Joined
        rw [postTask_slots_ne ne, postTask_disp_ne ne]
        exact ⟨alone, behind⟩
      · rw [List.mem_singleton.mp new]
        exact (joined_postTask (runFresh v i s posted.length l) t).of_same head slot disp }

/-! ### The walk (R106, R111) -/

/-- Within one entry's rectangle two locations never share a channel (R41). -/
theorem mapChannel_inj {e : RangeEntry} {l m : Location} (fits : geometryFits e = true) (hl : inBounds e l = true)
    (hm : inBounds e m = true) (same : mapChannel e l = mapChannel e m) : l = m := by
  have value := congrArg Fin.val same
  rw [mapChannel_val fits hl, mapChannel_val fits hm] at value
  exact spanIndex_inj hl hm (Nat.add_left_cancel value)

/-- Every task posted stands on the channel of a location the walk has left behind. -/
def BehindWalk (d : Direction) (e : RangeEntry) (posted : List Task) (l : Location) : Prop :=
  ∀ x ∈ posted, ∃ m, inBounds e m = true ∧ x.channel = mapChannel e m ∧ locationsLeft d e l < locationsLeft d e m

theorem BehindWalk.untouched {d : Direction} {e : RangeEntry} {posted : List Task} {l : Location}
    (behind : BehindWalk d e posted l) (fits : geometryFits e = true) (within : inBounds e l = true) :
    ∀ x ∈ posted, x.channel ≠ mapChannel e l := by
  intro x mem same
  obtain ⟨m, inside, channel, earlier⟩ := behind x mem
  have here : m = l := mapChannel_inj fits inside within (channel.symm.trans same)
  rw [here] at earlier
  exact Nat.lt_irrefl _ earlier

theorem BehindWalk.next {d : Direction} {e : RangeEntry} {posted : List Task} {l m : Location}
    (behind : BehindWalk d e posted l) (within : inBounds e l = true) (next : nextLocation d e l = some m) :
    BehindWalk d e posted m := by
  intro x mem
  obtain ⟨k, inside, channel, earlier⟩ := behind x mem
  exact ⟨k, inside, channel, (locationsLeft_nextLocation within next).trans earlier⟩

theorem BehindWalk.post {d : Direction} {e : RangeEntry} {posted : List Task} {l m : Location} {y : Task}
    (behind : BehindWalk d e posted l) (within : inBounds e l = true) (next : nextLocation d e l = some m)
    (here : y.channel = mapChannel e l) : BehindWalk d e (posted ++ [y]) m := by
  intro x mem
  rcases List.mem_append.mp mem with old | new
  · exact behind.next within next x old
  · exact ⟨l, within, List.mem_singleton.mp new ▸ here, locationsLeft_nextLocation within next⟩

/-- Where a walk ends that has posted the given tasks so far: it posts more, as the statement's walk does. -/
def WalkEnds (v : RunOp) (i : EntryNo) (s : State) (posted : List Task) (l : Location) (w : WalkEnd) : Prop :=
  ∃ more, w.posted = (posted ++ more).length ∧ RanTo v s (posted ++ more) w.state ∧
    Walks v i s posted.length l more w.stop w.last ∧ (posted ++ more).length ≤ v.count ∧
    (w.stop = .complete ↔ (posted ++ more).length = v.count)

/-- The model's walk is the statement's walk: its fuel suffices, for each location examined is one fewer of
the rectangle to go. -/
theorem RanTo.walk {v : RunOp} {i : EntryNo} {s t : State} {posted : List Task} {l : Location}
    (fits : geometryFits s.ranges[i] = true) (most : v.count ≤ 32) (fuel left : Nat)
    (within : inBounds s.ranges[i] l = true) (enough : locationsLeft v.direction s.ranges[i] l ≤ fuel)
    (wanted : left + posted.length = v.count) (unfinished : 1 ≤ left) (ran : RanTo v s posted t)
    (behind : BehindWalk v.direction s.ranges[i] posted l) :
    WalkEnds v i s posted l (Machine.walk v i fuel posted.length left l t) := by
  induction fuel generalizing t posted left l with
  | zero =>
    have := (locationsLeft_bounds within v.direction).1
    omega
  | succ fuel ih =>
    have ranges : t.ranges = s.ranges := by obtain ⟨_, _, _, _, rfl⟩ := ran.moved; rfl
    have untouched := behind.untouched fits within
    rcases ran.walkStep_cases (by omega) untouched with ⟨step, skips⟩ | ⟨r, step, incomplete, stops⟩ | ⟨step, posts⟩
    · cases next : nextLocation v.direction s.ranges[i] l with
      | none =>
        simp only [Machine.walk, step, ranges, next]
        refine ⟨[], by simp, by simpa using ran, .skipsTheEnd skips next, by simp; omega, by simp; omega⟩
      | some m =>
        simp only [Machine.walk, step, ranges, next]
        have fewer := locationsLeft_nextLocation within next
        obtain ⟨more, count, reached, walks, rest⟩ :=
          ih left (inBounds_nextLocation within next) (by omega) wanted unfinished ran (behind.next within next)
        exact ⟨more, count, reached, .skips skips next walks, rest⟩
    · simp only [Machine.walk, step]
      exact ⟨[], by simp, by simpa using ran, stops, by simp; omega, by simp [incomplete]; omega⟩
    · have further := ran.post (by omega) posts untouched
      have size : (posted ++ [runTask v i s posted.length l]).length = posted.length + 1 := by simp
      by_cases last : left ≤ 1
      · simp only [Machine.walk, step, last, if_true]
        exact ⟨_, size.symm, further, .completes posts (by omega), by omega, by simp; omega⟩
      · cases next : nextLocation v.direction s.ranges[i] l with
        | none =>
          simp only [Machine.walk, step, last, if_false, ranges, next]
          exact ⟨_, size.symm, further, .postsAtTheEnd posts (by omega) next, by omega, by simp; omega⟩
        | some m =>
          simp only [Machine.walk, step, last, if_false, ranges, next]
          have fewer := locationsLeft_nextLocation within next
          have ends := ih (left - 1) (inBounds_nextLocation within next) (by omega) (by omega) (by omega) further
            (behind.post within next rfl)
          rw [size] at ends
          obtain ⟨more, count, reached, walks, rest⟩ := ends
          rw [List.append_assoc] at count reached rest
          rw [size] at walks
          exact ⟨_ :: more, count, reached, .posts posts (by omega) next walks, rest⟩

/-! ### The whole RUN (R104 to R112) -/

/-- A RUN that passes its checks walks and takes in its RUN_DONE (R112). -/
theorem actRun_walks {v : RunOp} {i : EntryNo} {s : State} {w : WalkEnd} (c : Channel)
    (passes : runCheck s i v = none) (walked : walk v i Config.walkRoom 0 v.count v.start s = w) :
    actRun v i c s = record (.runDone v.base w.posted w.stop w.last) w.state := by
  rw [actRun, passes, ← walked]

/-- A report taken in after changes of the tasks is stamped as before them. -/
theorem TasksMoved.record {s u : State} (moved : TasksMoved s u) (b : ReportBody) :
    Machine.record b u = { s with
      pool := u.pool, slots := u.slots, disp := u.disp, beacon := u.beacon,
      queue := s.queue ++ [reportOf s b] } := by
  obtain ⟨_, _, _, _, rfl⟩ := moved
  rw [reportOf, ← stamp_eq]
  rfl

/-- Settles O21: the model's walk is the walk of the statement, with the state after each post described over
the state before the run. -/
theorem runPostsConsecutiveTags : Obligations.RunPostsConsecutiveTags := by
  intro rx i c s lists ranges _ claimed room v one most list permitted enabled quantities
  have passes : runCheck s i v = none := by
    rw [runCheck_eq, if_neg (by omega), if_neg (by omega), if_neg (ne_false_of_eq_true permitted),
      if_neg (ne_false_of_eq_true enabled), if_neg (by simpa using quantities)]
  obtain ⟨governs, block, -⟩ := matchLocation_block claimed.2.2.1
  have fits := ranges.geometry i block
  have within : inBounds s.ranges[i] v.start = true := (Bool.and_eq_true_iff.mp (covers_of_governing governs)).2
  have span : locationsLeft v.direction s.ranges[i] v.start ≤ Config.walkRoom := by
    obtain ⟨-, -, -, top⟩ := (geometryFits_iff _).mp fits
    have := (locationsLeft_bounds within v.direction).2
    show _ ≤ 64
    omega
  have ends : WalkEnds v i s [] v.start (walk v i Config.walkRoom 0 v.count v.start s) :=
    RanTo.walk fits most Config.walkRoom v.count within span rfl one (.start lists v) nofun
  generalize walked : walk v i Config.walkRoom 0 v.count v.start s = w at ends
  obtain ⟨posted, count, ran, walks, atMost, complete⟩ := ends
  rw [List.nil_append] at count ran atMost complete
  have acts := (actRun_walks c passes walked).trans (ran.moved.record _)
  rw [count] at acts
  obtain ⟨d, relayed, marked⟩ := relayMarked_form .run rx (s := s) (u := { s with
    pool := w.state.pool, slots := w.state.slots, disp := w.state.disp, beacon := w.state.beacon,
    queue := s.queue ++ [reportOf s (.runDone v.base posted.length w.stop w.last)] }) rfl rfl
  rw [exec_run_claimed claimed room, acts]
  exact ⟨_, posted, w.stop, w.last, congrArg _ relayed, rfl, marked, rfl, walks, ran.pool, atMost, complete,
    ran.channels, fun q => (ran.beacon q).2, ran.others, ran.joined⟩

end Sys2Proof.Machine
end
